-- ==== Sys2Proof/Word.lean ====
section
/-! DEFINITION. Values and their plainest arithmetic (spec/00_scope.md R10).

R10: "Every value is an unsigned natural number below 2^width, and its width is stated or evident."
The widths depend on the geometry (R7), so a value is a natural number and each register that holds one
cuts what is written to its width (log 1). -/

namespace Sys2Proof

/-- A value of the engine: an unsigned natural number (R10). -/
abbrev Word := Nat

/-- The low `n` bits of `v`: what a register or a field of `n` bits holds of `v` (R10, R48). -/
def trunc (n : Nat) (v : Word) : Word := v % 2 ^ n

/-- `ones(n)`: the `n`-bit value with every bit 1 (R10). -/
def ones (n : Nat) : Word := 2 ^ n - 1

end Sys2Proof
end

