-- ==== Sys2Proof/Config.lean ====
section
/-! DEFINITION. The parameters of an engine (spec/00_scope.md R7, spec/10_state.md R22, R41) and the values the
spec leaves free. -/

namespace Sys2Proof

/-- The geometry: "fixed for one engine instance and does not change at run time" (R7). -/
structure Geometry where
  /-- `PS`: data bits per storage word. -/
  ps : Nat
  /-- `AW`: bits sent as the address. -/
  aw : Nat
  deriving DecidableEq, Repr

namespace Geometry

/-- `WMAX`: width of the shift registers, `max(3, AW, PS+1)` (R7). -/
def wmax (g : Geometry) : Nat := max 3 (max g.aw (g.ps + 1))

/-- The width of `bi`, `ceil(log2(WMAX+1))` (R31): the bit length of `WMAX`, which is not 0. -/
def biWidth (g : Geometry) : Nat := Nat.log2 g.wmax + 1

/-- The width of a command word, `3 + AW + PS` (R63). -/
def cmdwWidth (g : Geometry) : Nat := 3 + g.aw + g.ps

/-- R7: "integer, `PS >= 1`; default 16", "integer, `AW >= 1`; default 6". -/
def standard : Geometry := ⟨16, 6⟩

end Geometry

/-- The binding of the five line roles to physical pins, "Immutable for the object's lifetime" (R22). -/
structure Pins where
  cs : Nat
  clk : Nat
  di : Nat
  dout : Nat
  pe : Nat
  deriving DecidableEq, Repr, Inhabited

namespace Pins

def toList (p : Pins) : List Nat := [p.cs, p.clk, p.di, p.dout, p.pe]

/-- R130 step 2: "Bind the five roles to distinct pins", a "caller-guaranteed invariant" the engine never checks. -/
abbrev distinct (p : Pins) : Prop := p.toList.Nodup

/-- Two engines "bound to the same physical lines" (R58): some pin serves both. That one common pin is enough is DEDUCED
(log 15) from R123, which allows several engines "only on disjoint line sets". -/
def shares (p q : Pins) : Bool := p.toList.any (fun x => q.toList.contains x)

end Pins

/-- The parameters of one engine instance (R7, R22, R41). All times are in microseconds. -/
structure Params where
  geom : Geometry
  /-- `T_HALF`: one half clock period. -/
  tHalf : Nat
  /-- `T_PRE1`, `T_PRE2`: the two holds of the pre-pulse. -/
  tPre1 : Nat
  tPre2 : Nat
  /-- `T_WRITE_COUNT`: count of the fixed wait after a write. -/
  tWriteCount : Nat
  /-- `WRITE_UNIT`: length of one unit of the write wait. -/
  writeUnit : Nat
  /-- `T_PE_SETUP`: wait after program-enable is driven low at open. -/
  tPeSetup : Nat
  pins : Pins
  deriving DecidableEq, Repr

/-- The write wait, `T_WRITE_COUNT * WRITE_UNIT` (R54, R103). -/
def Params.writeWait (p : Params) : Nat := p.tWriteCount * p.writeUnit

namespace Config

/-- DESIGN CHOICE (log 5): the level on DI at the `n`-th SAMPLE of a run, where the input list has ended; R24: "The
engine does not constrain that value. In a model it is a draw". A free value. -/
opaque diDraw : Nat → Bool

/-- DESIGN CHOICE (log 7): the real-time gap before the `n`-th event of a run; R16: "A model takes each gap as a draw
and assumes no upper bound". A free value; `gap` makes it non-negative. Its type holds R126's FAIRNESS ASSUMPTION, "every
gap being finite" (log 22): a rational number is finite, so no gap of the model lasts for ever. -/
opaque gapDraw : Nat → Rat

/-- The gap before the `n`-th event, in microseconds: free but for R16's bound `g >= 0`, and finite, as R126's fairness
assumption says (log 22). Every statement that a command completes relies on that. -/
def gap (n : Nat) : Rat := max 0 (gapDraw n)

/-- DESIGN CHOICE (log 6): `T_HALF` of the reset state's engine, left OPEN by R7 and D12. A free value. -/
opaque tHalf : Nat

/-- DESIGN CHOICE (log 6): whether a unit of the write wait is a millisecond, left OPEN by R7 and D13. A free value. -/
opaque writeUnitIsMilli : Bool

/-- DESIGN CHOICE (log 6): the reset state's pin binding, "no defaults" (R22). A free value. -/
opaque pinBinding : Pins

end Config

/-- The engine at its default parameters (R7): PS = 16, AW = 6, T_PRE1 = T_PRE2 = T_HALF, T_WRITE_COUNT = 250,
T_PE_SETUP = 0; the two OPEN ones and the pins are the free constants above. -/
def Params.standard : Params where
  geom := Geometry.standard
  tHalf := Config.tHalf
  tPre1 := Config.tHalf
  tPre2 := Config.tHalf
  tWriteCount := 250
  writeUnit := bif Config.writeUnitIsMilli then 1000 else 1
  tPeSetup := 0
  pins := Config.pinBinding

end Sys2Proof
end

