-- ==== Sys2Proof/Syntax.lean ====
section
/-! DEFINITION. The engine's commands (spec/30_encoding.md R63, R64): one constructor per row of the opcode table. -/

namespace Sys2Proof

/-- A command word CMDW, by its command code (R64) and with its two fields (R63).

Every constructor carries both fields: `cur` latches the whole word (R29), and R63 says of the unused ones that
"The field may hold any value, and its value has no effect" (log 2). They are natural numbers; what does not fit
the geometry sends its low bits only (R48). -/
inductive Instr where
  /-- OPEN: claim the lines and drive program-enable low (R77). Neither field is read. -/
  | openCmd (addr data : Word)
  /-- CLOSE: release all five lines (R79). Neither field is read. -/
  | closeCmd (addr data : Word)
  /-- READ: read the page `addr` (R100). `data` is not read. -/
  | read (addr data : Word)
  /-- WRITE: write `data` to the page `addr`, then wait (R103). -/
  | write (addr data : Word)
  /-- EWEN: write-enable (R106). Neither field is read. -/
  | ewen (addr data : Word)
  /-- EWDS: write-disable (R108). Neither field is read. -/
  | ewds (addr data : Word)
  deriving DecidableEq, Repr

/-- The six commands, without their fields. -/
inductive Cmd where
  | openCmd
  | closeCmd
  | read
  | write
  | ewen
  | ewds
  deriving DecidableEq, Repr

end Sys2Proof
end

