-- ==== Sys2Proof/WellFormed.lean ====
section
/-! DEFINITION. What is well-formed: a command word's fields (spec/30_encoding.md R63, R72) and an engine's
parameters (spec/00_scope.md R8). -/

namespace Sys2Proof

/-- The `addr` field of a command word. -/
def Instr.addr : Instr → Word
  | .openCmd a _ => a
  | .closeCmd a _ => a
  | .read a _ => a
  | .write a _ => a
  | .ewen a _ => a
  | .ewds a _ => a

/-- The `data` field of a command word. -/
def Instr.data : Instr → Word
  | .openCmd _ d => d
  | .closeCmd _ d => d
  | .read _ d => d
  | .write _ d => d
  | .ewen _ d => d
  | .ewds _ d => d

/-- Both fields fit: "`addr` is exactly `AW` bits and `data` exactly `PS` bits" (R48, R63). The assembler refuses
anything else (R72). -/
abbrev Instr.WellFormed (g : Geometry) (i : Instr) : Prop := i.addr < 2 ^ g.aw ∧ i.data < 2 ^ g.ps

/-- R8: "A geometry is *well-formed* when every one of these holds: `PS >= 1`, `AW >= 1`, `T_WRITE_COUNT = 250`, and
`WRITE_UNIT ∈ {1, 1000}`." -/
abbrev Params.WellFormed (p : Params) : Prop :=
  1 ≤ p.geom.ps ∧ 1 ≤ p.geom.aw ∧ p.tWriteCount = 250 ∧ (p.writeUnit = 1 ∨ p.writeUnit = 1000)

end Sys2Proof
end

