-- ==== Sys2Proof/Decode.lean ====
section
/-! DEFINITION. The host command word CMDW: decoder and encoder (spec/30_encoding.md R63 to R65, R72).

A word is a number whose bit 0 is the least significant; the engine never splits it into bytes (R45). The command
port has `3 + AW + PS` wires, so bits above those do not reach the decoder. -/

namespace Sys2Proof

/-- `v[lo+len-1 : lo]` (R10). -/
def slice (w : Word) (lo len : Nat) : Word := trunc len (w >>> lo)

/-- The command codes of R64. -/
def Cmd.code : Cmd → BitVec 3
  | .openCmd => 0b001#3
  | .closeCmd => 0b010#3
  | .read => 0b100#3
  | .write => 0b101#3
  | .ewen => 0b110#3
  | .ewds => 0b111#3

/-- The command a code stands for; none for the reserved codes `000` and `011` (R64, R65). -/
def Cmd.ofCode (op : BitVec 3) : Option Cmd :=
  match op.toNat with
  | 1 => some .openCmd
  | 2 => some .closeCmd
  | 4 => some .read
  | 5 => some .write
  | 6 => some .ewen
  | 7 => some .ewds
  | _ => none

/-- The command of a command word. -/
def Instr.cmd : Instr → Cmd
  | .openCmd _ _ => .openCmd
  | .closeCmd _ _ => .closeCmd
  | .read _ _ => .read
  | .write _ _ => .write
  | .ewen _ _ => .ewen
  | .ewds _ _ => .ewds

/-- The command word of a command and its two fields. -/
def Cmd.instr : Cmd → Word → Word → Instr
  | .openCmd, a, d => .openCmd a d
  | .closeCmd, a, d => .closeCmd a d
  | .read, a, d => .read a d
  | .write, a, d => .write a d
  | .ewen, a, d => .ewen a d
  | .ewds, a, d => .ewds a d

/-- Why a word is no command. -/
inductive DecodeError where
  /-- "Command codes `000` and `011` are reserved, and the spec gives them no meaning" (R65). -/
  | reservedCommand (op : BitVec 3)
  deriving DecidableEq, Repr

/-- The fields of R63: `op = [2:0]`, `addr = [2+AW:3]`, `data = [2+AW+PS:3+AW]`. -/
def decode (g : Geometry) (w : Word) : Except DecodeError Instr :=
  match Cmd.ofCode (BitVec.ofNat 3 w) with
  | some c => .ok (c.instr (slice w 3 g.aw) (slice w (3 + g.aw) g.ps))
  | none => .error (.reservedCommand (BitVec.ofNat 3 w))

/-- CMDW = `{data[PS], addr[AW], op[3]}` (R63, D3), each field cut to its width. -/
def encode (g : Geometry) (i : Instr) : Word :=
  (trunc g.ps i.data <<< (3 + g.aw)) ||| (trunc g.aw i.addr <<< 3) ||| i.cmd.code.toNat

/-- The assembler of R72: "The assembler refuses `<addr> >= 2^AW` and `<data> >= 2^PS`." A command's line gives only
the operands it uses; the other fields are 0. -/
def assemble (g : Geometry) (i : Instr) : Option Word :=
  if i.WellFormed g then some (encode g i) else none

/-- A table word's instruction, at the default geometry (the opcode table's 25-bit `encoding_default`). Bits at `nbits`
and above are 0. -/
def decodeTableWord (nbits w : Nat) : Option Instr :=
  match decode Geometry.standard (trunc nbits w) with
  | .ok i => some i
  | .error _ => none

end Sys2Proof
end

