-- ==== Sys2Proof/Machine/State.lean ====
section
/-! DEFINITION. The engine's state (spec/10_state.md), its inputs, and the record of its run; its reset (R39). -/

namespace Sys2Proof.Machine

/-- The five lines, by the engine's point of view (R19, R22). -/
inductive Line where
  | cs
  | clk
  | di
  | dout
  | pe
  deriving DecidableEq, Repr

/-- The four lines with an output latch (R25): DI has none (R24). -/
inductive OutLine where
  | cs
  | clk
  | dout
  | pe
  deriving DecidableEq, Repr

/-- A line's direction (R23). -/
inductive Dir where
  | inn
  | out
  deriving DecidableEq, Repr

/-- The direction registers `dir[L]` (R23). -/
structure Dirs where
  cs : Dir
  clk : Dir
  di : Dir
  dout : Dir
  pe : Dir
  deriving DecidableEq, Repr

/-- The output latches `lvl[L]` (R25). -/
structure Levels where
  cs : Bool
  clk : Bool
  dout : Bool
  pe : Bool
  deriving DecidableEq, Repr

/-- The four line events (R15). -/
inductive Event where
  /-- `DIR(L, d)`. -/
  | dir (l : Line) (d : Dir)
  /-- `SET(L, v)`. -/
  | set (l : OutLine) (v : Bool)
  /-- `SAMPLE()`. -/
  | sample
  /-- `WAIT(t)`, `t` in microseconds. -/
  | wait (t : Nat)
  deriving DecidableEq, Repr

/-- One event of a run's trace: "Each `SAMPLE` carries the value it returned" (R15). -/
structure TraceEntry where
  /-- The real time at which the event happened (a WAIT: began), in microseconds since the run began (R16). -/
  time : Rat
  event : Event
  /-- The value of a SAMPLE; none for the other events. -/
  sampled : Option Bool
  deriving DecidableEq, Repr

/-- What the host does in one host step (R71) with the command port and the reset input (R69, R127). -/
inductive HostMove where
  /-- It presents nothing. -/
  | idle
  /-- It presents `word` with `cmd_valid = 1`. -/
  | command (word : Word)
  /-- It presents `word`, and `rst` is asserted when the engine has performed `after` events of that command. -/
  | interrupted (word : Word) (after : Nat)
  /-- `rst` is asserted, whatever the engine is doing. -/
  | reset
  deriving DecidableEq, Repr

/-- `cur`: the command accepted last (R29). -/
structure Command where
  op : BitVec 3
  addr : Word
  data : Word
  deriving DecidableEq, Repr

/-- The engine's state (R21), its parameters (R41), its inputs and the record of its run. -/
@[ext]
structure State where
  /-- The parameters (R7, R22). No step writes this field (R41). -/
  cfg : Params
  /-- `dir[L]` (R23). -/
  dir : Dirs
  /-- `lvl[L]` (R25). -/
  lvl : Levels
  /-- `open` (R26). -/
  isOpen : Bool
  /-- `busy` (R27). -/
  busy : Bool
  /-- `cur` (R29). -/
  cur : Command
  /-- `seq` (R30). -/
  seq : Nat
  /-- `tx`: the value being serialised, WMAX bits (R31). -/
  tx : Word
  /-- `rx`: the accumulator for DI samples, WMAX bits (R31). -/
  rx : Word
  /-- `bi`: the bit position of the current bit cell (R31). -/
  bi : Nat
  /-- `tmr`: the wait timer, in microseconds (R32). -/
  tmr : Nat
  /-- `rdata`: PS bits (R33). -/
  rdata : Word
  /-- `rraw`: PS+1 bits (R34). -/
  rraw : Word
  /-- `rsp_valid` (R35). -/
  rspValid : Bool
  /-- Input: the host's coming moves, the next first (log 4). -/
  host : List HostMove
  /-- Input: the levels on DI at the coming SAMPLEs, the next first; past its end each is a free draw (log 5). -/
  di : List Bool
  /-- How many SAMPLEs the run has performed: the index of the next free DI draw (log 5). -/
  samples : Nat
  /-- How many events the run has performed: the index of the next free gap draw (log 7). -/
  events : Nat
  /-- Real time since the run began, in microseconds (R16, log 7). -/
  now : Rat
  /-- The run's trace, oldest event first (R15, log 7). Nothing reads it. -/
  trace : List TraceEntry
  deriving DecidableEq, Repr

/-- Why the machine stops with a fault. R113: "The engine raises no exception and has no error state", so the one
fault here is the model's own. -/
inductive Fault where
  /-- Raised by a sequencer step of a busy state whose `cur.op` is no command or whose `seq` is at or past the end of
  `E(cur)`. R30 bounds `seq`, so no run reaches such a state. Safe: it only stops (log 9). -/
  | sequencerLost
  deriving DecidableEq, Repr

/-- Why a step has no meaning: the closed list of R114. "A refusal is a point where the spec gives no meaning, and a
model must not run past it. None is a hardware response." Each is safe: it only stops. -/
inductive Refusal where
  /-- An instruction without a meaning in this model yet, by its mnemonic. Raised by exec's arm. Safe. -/
  | notModelled (mnemonic : String)
  /-- A word with `op ∈ {000, 011}` is presented while idle (R65). Raised by step. Safe. -/
  | reservedCommand
  /-- READ, WRITE, EWEN, EWDS or CLOSE is presented while `open = 0` (R65). Raised by their meanings. Safe. -/
  | notOpen
  /-- OPEN is presented while `open = 1` (R65). Raised by its meaning. Safe. -/
  | alreadyOpen
  /-- At configuration, the parameters break R8. Raised by configure. Safe. -/
  | badGeometry
  /-- At configuration, another engine is bound to the same lines (R58). Raised by configure. Safe. -/
  | sharedLines
  deriving DecidableEq, Repr

/-- What a step answers. -/
abbrev Result := Host.Outcome State Fault Refusal

/-- The state after reset: R39's value of every item, at the default parameters (R7). The inputs and the record are
empty (logs 4, 5, 7). -/
def State.reset : State where
  cfg := Params.standard
  dir := ⟨.inn, .inn, .inn, .inn, .inn⟩
  lvl := ⟨false, false, false, false⟩
  isOpen := false
  busy := false
  cur := ⟨0#3, 0, 0⟩
  seq := 0
  tx := 0
  rx := 0
  bi := 0
  tmr := 0
  rdata := 0
  rraw := 0
  rspValid := false
  host := []
  di := []
  samples := 0
  events := 0
  now := 0
  trace := []

end Sys2Proof.Machine
end

