-- ==== Sys2Proof/Machine/Ops.lean ====
section
/-! DEFINITION. The named operations over the lines, the shift datapath, the wait timer and the inputs; the sequencer's
micro-operations; reset, the one shared operation that abandons a command (spec/00_scope.md R15 to R17,
spec/10_state.md R22 to R32, spec/70_reset_and_hazards.md R127).

There is no exception to take and none to return from (R113, R117, R118): reset is "the behaviour that comes nearest
to a trap". -/

namespace Sys2Proof.Machine

/-! ### Lines -/

/-- The line of an output latch. -/
def OutLine.line : OutLine → Line
  | .cs => .cs
  | .clk => .clk
  | .dout => .dout
  | .pe => .pe

def Dirs.get (d : Dirs) : Line → Dir
  | .cs => d.cs
  | .clk => d.clk
  | .di => d.di
  | .dout => d.dout
  | .pe => d.pe

def Dirs.put (d : Dirs) (l : Line) (x : Dir) : Dirs :=
  match l with
  | .cs => { d with cs := x }
  | .clk => { d with clk := x }
  | .di => { d with di := x }
  | .dout => { d with dout := x }
  | .pe => { d with pe := x }

def Levels.get (v : Levels) : OutLine → Bool
  | .cs => v.cs
  | .clk => v.clk
  | .dout => v.dout
  | .pe => v.pe

def Levels.put (v : Levels) (l : OutLine) (x : Bool) : Levels :=
  match l with
  | .cs => { v with cs := x }
  | .clk => { v with clk := x }
  | .dout => { v with dout := x }
  | .pe => { v with pe := x }

/-- All lines released: the directions at reset and while closed (R23, R38). -/
def Dirs.released : Dirs := ⟨.inn, .inn, .inn, .inn, .inn⟩

/-- The directions while open (R22). -/
def Dirs.claimed : Dirs := ⟨.out, .out, .inn, .out, .out⟩

/-- All latches 0: the idle levels (R37). -/
def Levels.low : Levels := ⟨false, false, false, false⟩

/-- The physical state of a line as the engine leaves it (R17): not driven, or driven to a level. -/
inductive LineState where
  | z
  | driven (level : Bool)
  deriving DecidableEq, Repr

/-- The output latch of a line; none for DI (R24, R25). -/
def State.latch (s : State) : Line → Option Bool
  | .cs => some s.lvl.cs
  | .clk => some s.lvl.clk
  | .di => none
  | .dout => some s.lvl.dout
  | .pe => some s.lvl.pe

/-- R17: "`line(L) = lvl[L]` when `dir[L] = OUT`, and `line(L) = Z` (not driven by the engine) when `dir[L] = IN`." -/
def State.line (s : State) (l : Line) : LineState :=
  match s.dir.get l, s.latch l with
  | .out, some v => .driven v
  | _, _ => .z

/-- The pin that a role is bound to (R22). -/
def pinOf (p : Pins) : Line → Nat
  | .cs => p.cs
  | .clk => p.clk
  | .di => p.di
  | .dout => p.dout
  | .pe => p.pe

/-- The roles through which the engine drives physical pin `n` (R17, R22). -/
def State.driversAt (s : State) (n : Nat) : List Line :=
  [Line.cs, .clk, .di, .dout, .pe].filter (fun l => pinOf s.cfg.pins l == n && s.line l != .z)

/-- `dir[L] <- d` (R15). -/
def State.setDir (s : State) (l : Line) (d : Dir) : State := { s with dir := s.dir.put l d }

/-- `lvl[L] <- v` (R15). -/
def State.setLvl (s : State) (l : OutLine) (v : Bool) : State := { s with lvl := s.lvl.put l v }

/-! ### Time and the record of the run -/

/-- The next event happens: the gap before it passes (R16) and it is put on the trace (R15). -/
def State.note (s : State) (e : Event) (b : Option Bool) : State :=
  { s with
    now := s.now + Config.gap s.events
    events := s.events + 1
    trace := s.trace ++ [⟨s.now + Config.gap s.events, e, b⟩] }

/-! ### The wait timer -/

/-- "On a `WAIT(t)` event it is loaded with `t`" (R32). -/
def State.loadTimer (s : State) (t : Nat) : State := { s with tmr := t }

/-- The timer "counts real time down to 0 in microseconds, and the sequencer step completes when it reaches 0" (R32):
the whole count, during which no line changes (R15). -/
def State.runTimer (s : State) : State := { s with tmr := 0, now := s.now + (s.tmr : Rat) }

/-! ### The shift datapath -/

/-- "At the start of each Transfer `tx <- value`, `rx <- 0` and `bi <- n-1`" (R31), each cut to its register's width. -/
def State.startTransfer (s : State) (value : Word) (n : Nat) : State :=
  { s with
    tx := trunc s.cfg.geom.wmax value
    rx := 0
    bi := trunc s.cfg.geom.biWidth (n - 1) }

/-- The next cell of a Transfer: its `i` is one lower (R84). -/
def State.nextBit (s : State) : State := { s with bi := s.bi - 1 }

/-- "`r <- r | (zext_WMAX(b) << i)`" (R84). -/
def State.capture (s : State) (b : Bool) : State :=
  { s with rx := trunc s.cfg.geom.wmax (s.rx ||| (b.toNat <<< s.bi)) }

/-! ### Data-in -/

/-- The level on DI at the `j`-th SAMPLE from now, counting from 0 (R24): from the device's input list, and past its
end a free draw (log 5). -/
def State.diAt (s : State) (j : Nat) : Bool := s.di.getD j (Config.diDraw (s.samples + j))

/-- A SAMPLE has used up one level of the device's input. -/
def State.consumeDi (s : State) : State := { s with di := s.di.tail, samples := s.samples + 1 }

/-! ### Events -/

/-- `DIR(L, d)` (R15). -/
def State.doDir (s : State) (l : Line) (d : Dir) : State := (s.note (.dir l d) none).setDir l d

/-- `SET(L, v)` (R15): an event in the trace also where the line does not change (R17). -/
def State.doSet (s : State) (l : OutLine) (v : Bool) : State := (s.note (.set l v) none).setLvl l v

/-- `WAIT(t)` (R15, R32). `WAIT(0)` completes at once. -/
def State.doWait (s : State) (t : Nat) : State := ((s.note (.wait t) none).loadTimer t).runTimer

/-- `b <- SAMPLE()`, then `r <- r | (b << i)` (R84 step 1). "A sample has no side effect on any state except the engine
register it is accumulated into" (R24). -/
def State.doSample (s : State) : State :=
  ((s.note .sample (some (s.diAt 0))).capture (s.diAt 0)).consumeDi

/-! ### Micro-operations -/

/-- One entry of the sequencer's list: one event, with what the shift datapath does at it (R30, R31). -/
inductive Micro where
  | dir (l : Line) (d : Dir)
  | set (l : OutLine) (v : Bool)
  | wait (t : Nat)
  /-- The SAMPLE of a Transfer's first cell: the Transfer of `n` bits of `value` starts (R31). -/
  | firstSample (value : Word) (n : Nat)
  /-- The SAMPLE of a later cell. -/
  | nextSample
  /-- `SET(DO, value[i])` (R84 step 2), the bit taken from the datapath. -/
  | drive
  /-- A Transfer of no bits: "the single event `SET(DO, 0)` and a result of 0" (R90). No well-formed geometry has one. -/
  | emptyTransfer (value : Word)
  deriving DecidableEq, Repr

/-- Perform the event of one micro-operation. -/
def State.perform (s : State) : Micro → State
  | .dir l d => s.doDir l d
  | .set l v => s.doSet l v
  | .wait t => s.doWait t
  | .firstSample value n => (s.startTransfer value n).doSample
  | .nextSample => s.nextBit.doSample
  | .drive => s.doSet .dout (s.tx.testBit s.bi)
  | .emptyTransfer value => (s.startTransfer value 0).doSet .dout false

/-- "`seq <- k + 1`" (R30). -/
def State.advance (s : State) : State := { s with seq := s.seq + 1 }

/-- One micro-operation and the sequencer's advance. -/
def State.micro (s : State) (m : Micro) : State := (s.perform m).advance

/-- A list of micro-operations, in order: "Procedures run strictly in order. No two events of one engine overlap" (R14). -/
def State.runMicros (s : State) (ms : List Micro) : State := ms.foldl State.micro s

/-! ### Acceptance and reset -/

/-- A command is accepted: "`busy <- 1`, `cur <- command` and `seq <- 0` are written together" (R28); `cur` holds the
whole word, each field at its width (R29). The host step in which `rsp_valid` could be read is over (R35). -/
def State.accept (s : State) (i : Instr) : State :=
  { s with
    busy := true
    cur := ⟨i.cmd.code, trunc s.cfg.geom.aw i.addr, trunc s.cfg.geom.ps i.data⟩
    seq := 0
    rspValid := false }

/-- Reset: "Asserting `rst` sets every state item to its reset value in 10_state.md rule R39, at once and whatever the
engine is doing" (R127). The parameters (R41), the inputs still to come and the record of the run are no state items. -/
def State.applyReset (s : State) : State :=
  { State.reset with
    cfg := s.cfg
    host := s.host
    di := s.di
    samples := s.samples
    events := s.events
    now := s.now
    trace := s.trace }

end Sys2Proof.Machine
end

