-- ==== Sys2Proof/Machine/Configure.lean ====
section
/-! DEFINITION. Configuring an engine (spec/00_scope.md R8, spec/20_memory.md R58, spec/70_reset_and_hazards.md R130). -/

namespace Sys2Proof.Machine

/-- Configure an engine with parameters `p`, where engines bound to `others` exist already: an ill-formed geometry is
refused "when the engine is configured, never while it runs" (R8), and so is a binding to another engine's lines (R58).
Otherwise the engine stands in its reset state.

DESIGN CHOICE (log 21): parameters that are ill-formed and on shared lines too are refused `badGeometry`. R116 orders only
the refusals of a word, and no rule orders these two. -/
def configure (p : Params) (others : List Pins) : Result :=
  if p.WellFormed then
    if others.any (fun q => p.pins.shares q) then .refused .sharedLines
    else .next { State.reset with cfg := p }
  else .refused .badGeometry

end Sys2Proof.Machine
end

