-- ==== Sys2Proof/Machine/Flags.lean ====
section
/-! DEFINITION. The status bits `open`, `busy` and `rsp_valid`, the completion writes of the commands, and the ports
(spec/10_state.md R26 to R35, spec/30_encoding.md R69, R70). The engine has no condition codes (R36). -/

namespace Sys2Proof.Machine

/-! ### Preconditions of the commands (R65, R119) -/

/-- A command that needs `open = 1` (R65): READ, WRITE, EWEN, EWDS, CLOSE. While `busy = 1` "nothing presented there
has any effect" (R28). -/
def State.whenOpen (s : State) (run : State → State) : Result :=
  if s.busy then .next s else if s.isOpen then .next (run s) else .refused .notOpen

/-- A command that needs `open = 0` (R65): OPEN. -/
def State.whenClosed (s : State) (run : State → State) : Result :=
  if s.busy then .next s else if s.isOpen then .refused .alreadyOpen else .next (run s)

/-! ### Completion writes (R30) -/

/-- OPEN: "`open <- 1` -- at completion, with `busy <- 0`" (R77). -/
def State.finishOpen (s : State) : State := { s with isOpen := true, busy := false }

/-- CLOSE: "`open <- 0` -- at completion, with `busy <- 0`" (R79). -/
def State.finishClose (s : State) : State := { s with isOpen := false, busy := false }

/-- READ: "`rraw <- raw[PS:0]`", "`rdata <- raw[PS-1:0]`", "`rsp_valid <- 1` for the next host step" (R100); `raw` is
the `rx` of its last Transfer (R31). -/
def State.finishRead (s : State) : State :=
  { s with
    rraw := trunc (s.cfg.geom.ps + 1) s.rx
    rdata := trunc s.cfg.geom.ps s.rx
    rspValid := true
    busy := false }

/-- WRITE, EWEN, EWDS: "`busy <- 0`", and "No host-visible register changes" (R103, R106, R108). -/
def State.finishPlain (s : State) : State := { s with busy := false }

/-- The completion writes of a command. -/
def State.finish (s : State) : Cmd → State
  | .openCmd => s.finishOpen
  | .closeCmd => s.finishClose
  | .read => s.finishRead
  | .write => s.finishPlain
  | .ewen => s.finishPlain
  | .ewds => s.finishPlain

/-- A host step in which nothing is presented: "`rsp_valid` … is 1 for exactly the host step right after a READ
completes" (R35), and all else is kept while idle (R125). -/
def State.idleStep (s : State) : State := { s with rspValid := false }

/-! ### Ports (R69, R70) -/

/-- The status and response port, and the command port's `cmd_ready` (R69, R70). -/
structure StatusPort where
  cmdReady : Bool
  isOpen : Bool
  busy : Bool
  rspValid : Bool
  rspData : Word
  rspRaw : Word
  deriving DecidableEq, Repr

def State.statusPort (s : State) : StatusPort where
  cmdReady := !s.busy
  isOpen := s.isOpen
  busy := s.busy
  rspValid := s.rspValid
  rspData := s.rdata
  rspRaw := s.rraw

/-- The output side of the line port (R70). -/
structure LinePort where
  csO : Bool
  clkO : Bool
  doO : Bool
  peO : Bool
  csOe : Bool
  clkOe : Bool
  doOe : Bool
  peOe : Bool
  diOe : Bool
  deriving DecidableEq, Repr

/-- "each 1 when `dir[L] = OUT`" (R70). -/
def State.oe (s : State) (l : Line) : Bool := s.dir.get l == .out

def State.linePort (s : State) : LinePort where
  csO := s.lvl.cs
  clkO := s.lvl.clk
  doO := s.lvl.dout
  peO := s.lvl.pe
  csOe := s.oe .cs
  clkOe := s.oe .clk
  doOe := s.oe .dout
  peOe := s.oe .pe
  diOe := s.oe .di

end Sys2Proof.Machine
end

