-- ==== Sys2Proof/Machine/Operands.lean ====
section
/-! DEFINITION. Operand assembly: the values a command hands to Transfer (spec/30_encoding.md R64, R66). -/

namespace Sys2Proof.Machine

/-- The 2-bit wire opcode of READ (R64). -/
def wireRead : Word := 0b10

/-- The 2-bit wire opcode of WRITE (R64). -/
def wireWrite : Word := 0b01

/-- The 2-bit wire opcode of EWEN and EWDS (R64, R67). -/
def wireControl : Word := 0b00

/-- "Preamble value: `{1, opw}` as a 3-bit value", sent by `Transfer(4 | opw, 3)` (R66). -/
def preambleValue (opw : Word) : Word := 4 ||| opw

/-- The address field as `cur.addr` holds it: `AW` bits (R29, R48, R66). -/
def addrOperand (p : Params) (addr : Word) : Word := trunc p.geom.aw addr

/-- The data field as `cur.data` holds it: `PS` bits (R29, R48, R66). -/
def dataOperand (p : Params) (data : Word) : Word := trunc p.geom.ps data

/-- EWEN's payload, `ones(AW)` (R66). -/
def enablePayload (p : Params) : Word := ones p.geom.aw

/-- EWDS's payload, `0` (R66). -/
def disablePayload : Word := 0

/-- The read window's value: DO is held 0 (R60, R66). -/
def readWindowValue : Word := 0

/-- The width of the read window, `PS+1` (R66). -/
def readWindowBits (p : Params) : Nat := p.geom.ps + 1

end Sys2Proof.Machine
end

