-- ==== Sys2Proof/Machine/Transfer.lean ====
section
/-! DEFINITION. The bit serializer/deserializer as the sequencer runs it (spec/41_bit_transfer.md R84). -/

namespace Sys2Proof.Machine

/-- Steps 2 to 4 of a bit cell (R84): drive bit `i`, half a period with CLK low, CLK high for half a period, CLK low. -/
def cellTail (p : Params) : List Micro :=
  [.drive, .wait p.tHalf, .set .clk true, .wait p.tHalf, .set .clk false]

/-- The cells of a Transfer after its first, `n` of them, and "after the loop: DO idle low" (R84). -/
def laterCells (p : Params) : Nat → List Micro
  | 0 => [.set .dout false]
  | n + 1 => .nextSample :: (cellTail p ++ laterCells p n)

/-- `Transfer(value, n)` (R84). -/
def transfer (p : Params) (value : Word) : Nat → List Micro
  | 0 => [.emptyTransfer value]
  | n + 1 => .firstSample value (n + 1) :: (cellTail p ++ laterCells p n)

end Sys2Proof.Machine
end

