-- ==== Sys2Proof/Machine/Framer.lean ====
section
/-! DEFINITION. The chip-select framer and the opcode preamble as the sequencer runs them (spec/42_framer.md). -/

namespace Sys2Proof.Machine

/-- `PrePulse()` (R93): the single clock pulse before every transaction, CS and DO low, no SAMPLE. -/
def prePulse (p : Params) : List Micro :=
  [.set .cs false, .set .dout false, .wait p.tPre1, .set .clk true, .wait p.tPre2, .set .clk false]

/-- `BeginTransaction(opw)` (R94): the pre-pulse, CS up, the start bit and the opcode. -/
def beginTransaction (p : Params) (opw : Word) : List Micro :=
  prePulse p ++ .set .cs true :: transfer p (preambleValue opw) 3

/-- `EndTransaction()` (R97): CS down. -/
def endTransaction : List Micro := [.set .cs false]

end Sys2Proof.Machine
end

