-- ==== Sys2Proof/Machine/Lifecycle.lean ====
section
/-! DEFINITION. OPEN and CLOSE (spec/40_lifecycle.md). -/

namespace Sys2Proof.Machine

/-- The events of OPEN (R77, R78). -/
def openProgram (p : Params) : List Micro :=
  [.set .cs false, .set .clk false, .set .dout false, .set .pe false,
   .dir .cs .out, .dir .clk .out, .dir .di .inn, .dir .dout .out, .dir .pe .out,
   .wait p.tPeSetup]

/-- The events of CLOSE (R79, R80). -/
def closeProgram : List Micro :=
  [.dir .cs .inn, .dir .clk .inn, .dir .di .inn, .dir .dout .inn, .dir .pe .inn]

/-- OPEN (R77). -/
def execOpen (addr data : Word) (s : State) : Result :=
  s.whenClosed fun s => ((s.accept (.openCmd addr data)).runMicros (openProgram s.cfg)).finishOpen

/-- CLOSE (R79). -/
def execClose (addr data : Word) (s : State) : Result :=
  s.whenOpen fun s => ((s.accept (.closeCmd addr data)).runMicros closeProgram).finishClose

end Sys2Proof.Machine
end

