-- ==== Sys2Proof/Machine/Transaction.lean ====
section
/-! DEFINITION. READ, WRITE, EWEN and EWDS (spec/43_operations.md). -/

namespace Sys2Proof.Machine

/-- The events of READ (R100). -/
def readProgram (p : Params) (addr : Word) : List Micro :=
  beginTransaction p wireRead ++ transfer p (addrOperand p addr) p.geom.aw ++
    transfer p readWindowValue (readWindowBits p) ++ endTransaction

/-- The events of WRITE (R103), the write wait included. -/
def writeProgram (p : Params) (addr data : Word) : List Micro :=
  beginTransaction p wireWrite ++ transfer p (addrOperand p addr) p.geom.aw ++
    transfer p (dataOperand p data) p.geom.ps ++ endTransaction ++ [.wait p.writeWait]

/-- The events of EWEN (R106). -/
def ewenProgram (p : Params) : List Micro :=
  beginTransaction p wireControl ++ transfer p (enablePayload p) p.geom.aw ++ endTransaction

/-- The events of EWDS (R108). -/
def ewdsProgram (p : Params) : List Micro :=
  beginTransaction p wireControl ++ transfer p disablePayload p.geom.aw ++ endTransaction

/-- READ (R100). -/
def execRead (addr data : Word) (s : State) : Result :=
  s.whenOpen fun s => ((s.accept (.read addr data)).runMicros (readProgram s.cfg addr)).finishRead

/-- WRITE (R103). -/
def execWrite (addr data : Word) (s : State) : Result :=
  s.whenOpen fun s => ((s.accept (.write addr data)).runMicros (writeProgram s.cfg addr data)).finishPlain

/-- EWEN (R106). -/
def execEwen (addr data : Word) (s : State) : Result :=
  s.whenOpen fun s => ((s.accept (.ewen addr data)).runMicros (ewenProgram s.cfg)).finishPlain

/-- EWDS (R108). -/
def execEwds (addr data : Word) (s : State) : Result :=
  s.whenOpen fun s => ((s.accept (.ewds addr data)).runMicros (ewdsProgram s.cfg)).finishPlain

end Sys2Proof.Machine
end

