-- ==== Sys2Proof/Machine/Dispatch.lean ====
section
/-! DEFINITION. From a command to its meaning. -/

namespace Sys2Proof.Machine

def exec (i : Instr) (s : State) : Host.Outcome State Fault Refusal :=
  match i with
  | .openCmd addr data => Sys2Proof.Machine.execOpen addr data s
  | .closeCmd addr data => Sys2Proof.Machine.execClose addr data s
  | .read addr data => Sys2Proof.Machine.execRead addr data s
  | .write addr data => Sys2Proof.Machine.execWrite addr data s
  | .ewen addr data => Sys2Proof.Machine.execEwen addr data s
  | .ewds addr data => Sys2Proof.Machine.execEwds addr data s

end Sys2Proof.Machine
end

