-- ==== Sys2Proof/Machine/Sequencer.lean ====
section
/-! DEFINITION. The sequencer at event granularity (spec/10_state.md R30, spec/30_encoding.md R71), a host step's
presentation of a command, and a command cut short by reset (spec/70_reset_and_hazards.md R127). -/

namespace Sys2Proof.Machine

/-- `E(cur)`: the sequencer's list for a command with these fields (R30). -/
def program (p : Params) (c : Cmd) (addr data : Word) : List Micro :=
  match c with
  | .openCmd => openProgram p
  | .closeCmd => closeProgram
  | .read => readProgram p addr
  | .write => writeProgram p addr data
  | .ewen => ewenProgram p
  | .ewds => ewdsProgram p

/-- `E` of a command word. -/
def programOf (p : Params) (i : Instr) : List Micro := program p i.cmd i.addr i.data

/-- One sequencer step (R30): "one sequencer step performs event `E(cur)[k]` and then writes `seq <- k + 1`. When
`k + 1 = len(E(cur))`, the step also writes `busy <- 0` and does the completion writes of that command". -/
def State.sequencerStep (s : State) : Result :=
  match Cmd.ofCode s.cur.op with
  | none => .fault .sequencerLost
  | some c =>
    match (program s.cfg c s.cur.addr s.cur.data)[s.seq]? with
    | none => .fault .sequencerLost
    | some m =>
      if s.seq + 1 = (program s.cfg c s.cur.addr s.cur.data).length then .next ((s.micro m).finish c)
      else .next (s.micro m)

/-- What R114 calls a word that is no command. -/
def refusalOf : DecodeError → Refusal
  | .reservedCommand _ => .reservedCommand

/-- The host presents a word while `busy = 0` (R28, R69): it is decoded, and its command runs to its end (R71, command
granularity). `ReservedCommand` comes first (R116). -/
def State.present (s : State) (w : Word) : Result :=
  match decode s.cfg.geom w with
  | .ok i => exec i s
  | .error e => .refused (refusalOf e)

/-- An accepted command abandoned by reset after `k` of its events: "No further event of it is performed, and it has no
completion writes" (R127). -/
def State.cutShort (s : State) (i : Instr) (k : Nat) : State :=
  ((s.accept i).runMicros ((programOf s.cfg i).take k)).applyReset

/-- The host presents a word while `busy = 0`, and `rst` is asserted when `k` of its events are done. A word that would
be refused is refused: "a model must not run past it" (R114). -/
def State.presentInterrupted (s : State) (w : Word) (k : Nat) : Result :=
  match decode s.cfg.geom w with
  | .ok i =>
    match exec i s with
    | .next _ => .next (s.cutShort i k)
    | .fault f => .fault f
    | .refused r => .refused r
  | .error e => .refused (refusalOf e)

/-- The host's next move is taken from the input list. -/
def State.dropMove (s : State) : State := { s with host := s.host.tail }

/-- One step of a busy engine: reset wins over every event (R116), and nothing else the host does has an effect (R28). -/
def State.busyStep (s : State) : Result :=
  match s.host with
  | .reset :: _ => .next s.dropMove.applyReset
  | _ => s.sequencerStep

/-- One host step of an idle engine (R71). -/
def State.hostStep (s : State) : Result :=
  match s.host with
  | [] => .next s.idleStep
  | .idle :: _ => .next s.dropMove.idleStep
  | .command w :: _ => s.dropMove.present w
  | .interrupted w k :: _ => s.dropMove.presentInterrupted w k
  | .reset :: _ => .next s.dropMove.applyReset

end Sys2Proof.Machine
end

