-- ==== Sys2Proof/Machine/Step.lean ====
section
/-! DEFINITION. One step of the machine, and where the next command comes from. -/

namespace Sys2Proof.Machine

/-- One step: a sequencer step while busy, a host step while idle (R71). -/
def step (s : State) : Host.Outcome State Fault Refusal :=
  if s.busy then s.busyStep else s.hostStep

/-- `s`, with the table word `w` as the command the host presents next. The command port is ready only while `busy = 0`
(R69), so the engine is idle. -/
def State.withFetchWord (s : State) (nbits w : Nat) : State :=
  { s with busy := false, host := .command (trunc nbits w) :: s.host }

end Sys2Proof.Machine
end

