-- ==== Sys2Proof/Machine/EventLists.lean ====
section
/-! DEFINITION. The event lists as the spec's tables write them (spec/40_lifecycle.md R78, R80, spec/41_bit_transfer.md
R86, spec/42_framer.md R93, R94, spec/43_operations.md R101, R104, R107, R109). The machine does not run these: it runs
the micro-operations of `program`. That the two agree is stated as obligations. -/

namespace Sys2Proof.Machine

/-- `Cell(v)` (R86). -/
def cellEvents (p : Params) (v : Bool) : List Event :=
  [.sample, .set .dout v, .wait p.tHalf, .set .clk true, .wait p.tHalf, .set .clk false]

/-- `Cell(value[n-1]) ++ … ++ Cell(value[0]) ++ [SET(DO, 0)]` (R86). -/
def transferEvents (p : Params) (value : Word) : Nat → List Event
  | 0 => [.set .dout false]
  | n + 1 => cellEvents p (value.testBit n) ++ transferEvents p value n

/-- The 6 events of the pre-pulse (R93). -/
def prePulseEvents (p : Params) : List Event :=
  [.set .cs false, .set .dout false, .wait p.tPre1, .set .clk true, .wait p.tPre2, .set .clk false]

/-- The 26 events of `BeginTransaction` with the preamble bits `1, o1, o0` (R94). -/
def beginEvents (p : Params) (o1 o0 : Bool) : List Event :=
  prePulseEvents p ++ [.set .cs true] ++ cellEvents p true ++ cellEvents p o1 ++ cellEvents p o0 ++ [.set .dout false]

/-- `E(OPEN)` (R78). -/
def openEvents (p : Params) : List Event :=
  [.set .cs false, .set .clk false, .set .dout false, .set .pe false,
   .dir .cs .out, .dir .clk .out, .dir .di .inn, .dir .dout .out, .dir .pe .out,
   .wait p.tPeSetup]

/-- `E(CLOSE)` (R80). -/
def closeEvents : List Event :=
  [.dir .cs .inn, .dir .clk .inn, .dir .di .inn, .dir .dout .inn, .dir .pe .inn]

/-- `E(READ addr)` (R101). -/
def readEvents (p : Params) (addr : Word) : List Event :=
  beginEvents p true false ++ transferEvents p addr p.geom.aw ++ transferEvents p 0 (p.geom.ps + 1) ++ [.set .cs false]

/-- `E(WRITE addr, data)` (R104). -/
def writeEvents (p : Params) (addr data : Word) : List Event :=
  beginEvents p false true ++ transferEvents p addr p.geom.aw ++ transferEvents p data p.geom.ps ++
    [.set .cs false, .wait (p.tWriteCount * p.writeUnit)]

/-- `E(EWEN)` (R107). -/
def ewenEvents (p : Params) : List Event :=
  beginEvents p false false ++ (List.replicate p.geom.aw (cellEvents p true)).flatten ++
    [.set .dout false, .set .cs false]

/-- `E(EWDS)` (R109). -/
def ewdsEvents (p : Params) : List Event :=
  beginEvents p false false ++ (List.replicate p.geom.aw (cellEvents p false)).flatten ++
    [.set .dout false, .set .cs false]

/-- `E(cmd)` of a command word (R30). -/
def eventsOf (p : Params) : Instr → List Event
  | .openCmd _ _ => openEvents p
  | .closeCmd _ _ => closeEvents
  | .read addr _ => readEvents p addr
  | .write addr data => writeEvents p addr data
  | .ewen _ _ => ewenEvents p
  | .ewds _ _ => ewdsEvents p

end Sys2Proof.Machine
end

