-- ==== Sys2Proof/Machine/Assembler.lean ====
section
/-! DEFINITION. The spec's textual forms: the assembler's command lines (spec/30_encoding.md R72) and the wire string of a
command (R74). They are no part of the machine. -/

namespace Sys2Proof.Machine

/-- What the assembler makes of one line. -/
inductive AsmLine where
  /-- A line with no command: empty, blank or a comment. -/
  | blank
  /-- The line's CMDW. -/
  | word (w : Word)
  /-- Not a command's line, or an operand the geometry cannot hold: "The assembler refuses `<addr> >= 2^AW` and
  `<data> >= 2^PS`" (R72). -/
  | refused
  deriving DecidableEq, Repr

/-- The value of a digit of a number in base `base`; none for any other character. -/
def digitOf (base : Nat) (c : Char) : Option Nat :=
  let n := c.toNat
  let d := if 48 ≤ n ∧ n ≤ 57 then some (n - 48)
    else if 65 ≤ n ∧ n ≤ 70 then some (n - 55)
    else if 97 ≤ n ∧ n ≤ 102 then some (n - 87)
    else none
  d.bind fun v => if v < base then some v else none

/-- The number the digits continue, most significant first. -/
def digitsFrom (base acc : Nat) : List Char → Option Nat
  | [] => some acc
  | c :: cs => (digitOf base c).bind fun v => digitsFrom base (acc * base + v) cs

/-- "unsigned numbers in decimal, or in hex with the `0x` prefix" (R72). -/
def numberOf : List Char → Option Nat
  | [] => none
  | ['0', 'x'] => none
  | '0' :: 'x' :: cs => digitsFrom 16 0 cs
  | cs => digitsFrom 10 0 cs

/-- The line's words: runs of characters other than blanks, with a comma a word of its own. `cur` is the word being
read, last character first. -/
def wordsFrom (cur : List Char) : List Char → List (List Char)
  | [] => if cur.isEmpty then [] else [cur.reverse]
  | c :: cs =>
    if c == ' ' || c == '\t' then (if cur.isEmpty then wordsFrom [] cs else cur.reverse :: wordsFrom [] cs)
    else if c == ',' then
      (if cur.isEmpty then [','] :: wordsFrom [] cs else cur.reverse :: [','] :: wordsFrom [] cs)
    else wordsFrom (c :: cur) cs

/-- The command of a line's words (R72); the fields a command does not use are 0. -/
def lineCommand : List (List Char) → Option Instr
  | [['O', 'P', 'E', 'N']] => some (.openCmd 0 0)
  | [['C', 'L', 'O', 'S', 'E']] => some (.closeCmd 0 0)
  | [['E', 'W', 'E', 'N']] => some (.ewen 0 0)
  | [['E', 'W', 'D', 'S']] => some (.ewds 0 0)
  | [['R', 'E', 'A', 'D'], a] => (numberOf a).map fun addr => .read addr 0
  | [['W', 'R', 'I', 'T', 'E'], a, [','], d] => (numberOf a).bind fun addr => (numberOf d).map fun data => .write addr data
  | _ => none

/-- The assembler on one line; "Comments start with `;`" (R72). -/
def assembleLine (g : Geometry) (line : List Char) : AsmLine :=
  match wordsFrom [] (line.takeWhile (fun c => c != ';')) with
  | [] => .blank
  | w :: ws =>
    match (lineCommand (w :: ws)).bind (assemble g) with
    | some x => .word x
    | none => .refused

/-- One DO bit as a character. -/
def bitChar (b : Bool) : Char := if b then '1' else '0'

/-- The wire string of a frame (R74): the pre-pulse `P`, the start bit, the opcode, the `AW`-bit field and what follows
it, with blanks between the fields. -/
def wireString (p : Params) (frame : List Bool) : List Char :=
  let body := frame.drop (3 + p.geom.aw)
  ['P', ' '] ++ (frame.take 1).map bitChar ++ [' '] ++ ((frame.drop 1).take 2).map bitChar ++ [' '] ++
    ((frame.drop 3).take p.geom.aw).map bitChar ++ (if body.isEmpty then [] else ' ' :: body.map bitChar)

end Sys2Proof.Machine
end

