-- ==== Sys2Proof/Safety.lean ====
section
/-! DEFINITION. What claims about the engine are stated in: its invariant, and what can be read off an event list on the
wire (spec/00_scope.md R17, spec/10_state.md R37, R38, spec/30_encoding.md R60, R61). -/

namespace Sys2Proof

/-- The four commands that are a chip-select transaction: "`op[2] = 1` marks the four transaction commands" (R64). -/
def Cmd.isTransaction : Cmd → Bool
  | .openCmd => false
  | .closeCmd => false
  | .read => true
  | .write => true
  | .ewen => true
  | .ewds => true

end Sys2Proof

namespace Sys2Proof.Machine

/-! ### Reading an event list on the wire -/

/-- What an event does to the output latches (R15). -/
def Levels.after (v : Levels) : Event → Levels
  | .dir _ _ => v
  | .set l x => v.put l x
  | .sample => v
  | .wait _ => v

/-- The output latches after a list of events. -/
def levelsAfter (v : Levels) (es : List Event) : Levels := es.foldl Levels.after v

/-- The latches at each rise of CLK, in order: "A *wire string* lists the DO level at each rising edge of CLK" (R74 and
95_test_vectors.md). -/
def clkRises (v : Levels) : List Event → List Levels
  | [] => []
  | e :: es =>
    if !v.clk && (v.after e).clk then v.after e :: clkRises (v.after e) es else clkRises (v.after e) es

/-- The DO bits of the frame: those at the rises of CLK while CS is high (R60). -/
def frameBits (v : Levels) (es : List Event) : List Bool := ((clkRises v es).filter (·.cs)).map (·.dout)

/-- The CLK pulses with CS low: the pre-pulses (R99). -/
def prePulses (v : Levels) (es : List Event) : Nat := ((clkRises v es).filter (fun x => !x.cs)).length

/-- The positions at which the latch of `l` turns to `x`; the list's first event has position `k`. -/
def edges (l : OutLine) (x : Bool) (v : Levels) (k : Nat) : List Event → List Nat
  | [] => []
  | e :: es =>
    if v.get l != x && (v.after e).get l == x then k :: edges l x (v.after e) (k + 1) es
    else edges l x (v.after e) (k + 1) es

/-- How long an event lasts, in microseconds: "Events take no time of their own, and only `WAIT` advances the engine's
time" (R16). -/
def Event.duration : Event → Nat
  | .dir _ _ => 0
  | .set _ _ => 0
  | .sample => 0
  | .wait t => t

/-- The sum of a list's waits (R141). -/
def waitSum (es : List Event) : Nat := (es.map Event.duration).sum

/-- The `n` low bits of `v`, most significant first (R44). -/
def msbBits : Nat → Word → List Bool
  | 0, _ => []
  | n + 1, v => v.testBit n :: msbBits n v

/-- The bits each Transfer of a transaction command sends, first-sent first (R60, R66): the preamble, the address, what
follows it. None for OPEN and CLOSE. -/
def wireFields (p : Params) : Instr → List (List Bool)
  | .openCmd _ _ => []
  | .closeCmd _ _ => []
  | .read addr _ => [[true, true, false], msbBits p.geom.aw addr, List.replicate (p.geom.ps + 1) false]
  | .write addr data => [[true, false, true], msbBits p.geom.aw addr, msbBits p.geom.ps data]
  | .ewen _ _ => [[true, false, false], List.replicate p.geom.aw true]
  | .ewds _ _ => [[true, false, false], List.replicate p.geom.aw false]

/-- The frame of a transaction command, first-sent first (R60). -/
def wireFrame (p : Params) (i : Instr) : List Bool := (wireFields p i).flatten

/-- `Σ_{j<n} b_j · 2^(n-1-j)` over the next `n` samples that follow `skip` others (R88, R102). -/
def sampleSum (s : State) (skip n : Nat) : Word :=
  ∑ j ∈ Finset.range n, (s.diAt (skip + j)).toNat * 2 ^ (n - 1 - j)

/-! ### The invariant -/

/-- What `open` asks of a command (R65, R119). -/
def Permitted (s : State) (i : Instr) : Prop := s.busy = false ∧ (s.isOpen = true ↔ i.cmd ≠ .openCmd)

/-- The idle-open lines of R37. -/
abbrev IdleOpenLines (s : State) : Prop :=
  s.dir = ⟨.out, .out, .inn, .out, .out⟩ ∧ s.lvl = ⟨false, false, false, false⟩

/-- The closed lines of R38. -/
abbrev ClosedLines (s : State) : Prop :=
  s.dir = ⟨.inn, .inn, .inn, .inn, .inn⟩ ∧ s.lvl = ⟨false, false, false, false⟩

/-- Every register holds a value of its width (R10, R29, R31, R33, R34). -/
abbrev Fits (s : State) : Prop :=
  s.cur.addr < 2 ^ s.cfg.geom.aw ∧ s.cur.data < 2 ^ s.cfg.geom.ps ∧
  s.tx < 2 ^ s.cfg.geom.wmax ∧ s.rx < 2 ^ s.cfg.geom.wmax ∧ s.bi < 2 ^ s.cfg.geom.biWidth ∧
  s.rdata < 2 ^ s.cfg.geom.ps ∧ s.rraw < 2 ^ (s.cfg.geom.ps + 1) ∧ s.rraw % 2 ^ s.cfg.geom.ps = s.rdata

/-- The lines stand as `open` says (R37, R38). -/
abbrev IdleLines (s : State) : Prop := if s.isOpen then IdleOpenLines s else ClosedLines s

/-- An idle engine in order: not busy, its lines as `open` says, its registers at their widths, its timer run out. -/
abbrev Settled (s : State) : Prop := s.busy = false ∧ IdleLines s ∧ Fits s ∧ s.tmr = 0

/-- A command is running: the state is what the first `k` events of a permitted command, accepted by a settled engine,
leave, and at least one event is still to come (R27, R30). -/
def MidCommand (s : State) : Prop :=
  ∃ (s0 : State) (i : Instr) (k : Nat), Settled s0 ∧ Permitted s0 i ∧ k < (programOf s0.cfg i).length ∧
    s = (s0.accept i).runMicros ((programOf s0.cfg i).take k)

/-- The engine's invariant. -/
def InOrder (s : State) : Prop := if s.busy then MidCommand s else Settled s

/-- The step of `s` is one in which a READ completes: it is presented to an idle engine, or a running one performs its
last event. -/
def ReadCompletesIn (s : State) : Prop :=
  (s.busy = false ∧ ∃ w rest a d, s.host = .command w :: rest ∧ decode s.cfg.geom w = .ok (.read a d)) ∨
  (s.busy = true ∧ s.host.head? ≠ some .reset ∧ Cmd.ofCode s.cur.op = some .read ∧
    s.seq + 1 = (readProgram s.cfg s.cur.addr).length)

/-- The step of `s` is one in which `rst` is asserted. -/
def ResetIn (s : State) : Prop :=
  s.host.head? = some .reset ∨ (s.busy = false ∧ ∃ w k, s.host.head? = some (.interrupted w k))

/-- Every state item of R39 has its reset value. -/
abbrev AtReset (s : State) : Prop :=
  s.dir = ⟨.inn, .inn, .inn, .inn, .inn⟩ ∧ s.lvl = ⟨false, false, false, false⟩ ∧
  s.isOpen = false ∧ s.busy = false ∧ s.cur = ⟨0#3, 0, 0⟩ ∧ s.seq = 0 ∧ s.tx = 0 ∧ s.rx = 0 ∧ s.bi = 0 ∧
  s.tmr = 0 ∧ s.rdata = 0 ∧ s.rraw = 0 ∧ s.rspValid = false

/-- The events of a run so far. -/
def State.eventTrace (s : State) : List Event := s.trace.map (·.event)

/-! ### What the host must see to (R83, R130) -/

/-- R130 step 1: "Configure the geometry to match the device." -/
abbrev GeometryMatches (p : Params) (device : Geometry) : Prop := p.WellFormed ∧ p.geom = device

/-- R130 step 2: "Bind the five roles to distinct pins." -/
abbrev RolesOnDistinctPins (p : Params) : Prop := p.pins.distinct

/-- R130 step 3: "Ensure no other agent drives the lines." `others` are the bindings of the other engines, `agents` the
pins that each further agent on the platform drives. The device, which answers on DI (R24), is not one of them. -/
abbrev NoOtherAgentDrives (p : Params) (others : List Pins) (agents : List (List Nat)) : Prop :=
  (∀ q ∈ others, p.pins.shares q = false) ∧ ∀ drives ∈ agents, ∀ pin ∈ drives, pin ∉ p.pins.toList

/-- The configuration premises of R130, steps 1 to 3. "The engine checks none of these", and what the engine itself does
depends on none of them: a statement that does not name them holds with them and without them. A claim that the engine
and its device make a working transport names them. -/
abbrev BootPremises (p : Params) (device : Geometry) (others : List Pins) (agents : List (List Nat)) : Prop :=
  GeometryMatches p device ∧ RolesOnDistinctPins p ∧ NoOtherAgentDrives p others agents

/-- Whether a lifetime is open after a host move that is not refused, if one was (`o`) before it (R77, R79, R81, R127). -/
def lifetimeAfter (g : Geometry) (o : Bool) : HostMove → Bool
  | .idle => o
  | .command w =>
    match decode g w with
    | .ok (.openCmd _ _) => true
    | .ok (.closeCmd _ _) => false
    | .ok (.read _ _) => o
    | .ok (.write _ _) => o
    | .ok (.ewen _ _) => o
    | .ok (.ewds _ _) => o
    | .error _ => o
  | .interrupted _ _ => false
  | .reset => false

/-- A HOST DUTY, NOT AN ENGINE GUARANTEE (R83): "The host must issue CLOSE at the end of every lifetime", the other half
of the release being reset's. It says of the host's coming moves that they leave no lifetime open. Nothing in the engine
enforces it: "A lifetime that ends with neither CLOSE nor reset leaves PE driven low". -/
abbrev HostEndsLifetimes (s : State) : Prop := s.host.foldl (lifetimeAfter s.cfg.geom) s.isOpen = false

/-- An outcome without the fields latched in `cur`, which no port shows (R70). -/
def forgetFields : Result → Result
  | .next t => .next { t with cur := ⟨t.cur.op, 0, 0⟩ }
  | .fault f => .fault f
  | .refused r => .refused r

/-- An outcome without the data field latched in `cur`. -/
def forgetData : Result → Result
  | .next t => .next { t with cur := ⟨t.cur.op, t.cur.addr, 0⟩ }
  | .fault f => .fault f
  | .refused r => .refused r

end Sys2Proof.Machine
end

