-- ==== Sys2Proof/Certificates/Slice0/Obligations.lean ====
section
/-! DEFINITION. The statements for the provers, from the spec's numbered rules.

R130 makes its steps 1 to 3 premises of every claim (`BootPremises`). What is said here of the engine alone holds whatever
the device, the pins and the other agents are, so with those premises too; the claim about a transport at work
(`BootedTransportReadsBackWhatItWrote`) names them.

That a command ends, and each statement that says so, rests on R126's fairness assumption: every gap is finite (log 22). -/

open Sys2Proof Sys2Proof.Machine

/-! ### Encoding -/

/-- Words of 95_test_vectors.md section 2.7, at the default geometry: each is the encoding of its command and decodes to
it. -/
def Obligations.SpecTableWordsDecode : Prop :=
  [(0x0000001, Instr.openCmd 0 0), (0x0000002, .closeCmd 0 0), (0x0000154, .read 42 0),
   (0x14B4A2D, .write 5 0xA5A5), (0x1000205, .write 0 0x8001), (0x0000006, .ewen 0 0), (0x0000007, .ewds 0 0)].all
    (fun x => decodeTableWord 32 x.1 == some x.2 && encode Geometry.standard x.2 == x.1) = true

/-- Decoding an encoded well-formed command gives it back, both fields included, at every geometry (R63, R64). -/
def Obligations.DecodeOfEncodeIsTheCommand : Prop :=
  ∀ (g : Geometry) (i : Instr), i.WellFormed g → decode g (encode g i) = .ok i

/-- A word that decodes has one meaning: its command is well-formed and encodes to the word's `3 + AW + PS` bits (R63). -/
def Obligations.EncodeOfDecodeIsTheWord : Prop :=
  ∀ (g : Geometry) (w : Word) (i : Instr), decode g w = .ok i → i.WellFormed g ∧ encode g i = w % 2 ^ (3 + g.aw + g.ps)

/-- R63's fields and R64's codes: what a word decodes to, by its low three bits, with `addr = [2+AW:3]` and
`data = [2+AW+PS:3+AW]`; the two reserved codes decode to nothing. -/
def Obligations.DecodeFollowsCommandCodes : Prop :=
  ∀ (g : Geometry) (w : Word),
    let a := w / 2 ^ 3 % 2 ^ g.aw
    let d := w / 2 ^ (3 + g.aw) % 2 ^ g.ps
    (w % 8 = 0b001 → decode g w = .ok (.openCmd a d)) ∧
    (w % 8 = 0b010 → decode g w = .ok (.closeCmd a d)) ∧
    (w % 8 = 0b100 → decode g w = .ok (.read a d)) ∧
    (w % 8 = 0b101 → decode g w = .ok (.write a d)) ∧
    (w % 8 = 0b110 → decode g w = .ok (.ewen a d)) ∧
    (w % 8 = 0b111 → decode g w = .ok (.ewds a d)) ∧
    (w % 8 = 0b000 ∨ w % 8 = 0b011 → ∃ op, decode g w = .error (.reservedCommand op))

/-! ### Host steps -/

/-- A step of an idle engine to which the host presents the word of command `i` is `exec i`, on the state whose input
list has moved on (R28, R69, R71). -/
def Obligations.StepRunsPresentedCommand : Prop :=
  ∀ (s : State) (w : Word) (rest : List HostMove) (i : Instr),
    s.busy = false → s.host = .command w :: rest → decode s.cfg.geom w = .ok i →
    step s = exec i { s with host := rest }

/-- The word that `withFetchWord` puts on the command port is the one the next step runs (log 4, log 12). -/
def Obligations.WordOnThePortRunsNext : Prop :=
  ∀ (s : State) (nbits w : Nat) (i : Instr), decode s.cfg.geom (w % 2 ^ nbits) = .ok i →
    step (s.withFetchWord nbits w) = exec i { s with busy := false }

/-- R65: on an idle engine, a presented word is refused exactly so: `ReservedCommand` for a reserved code, `NotOpen` for
a transaction command or CLOSE while closed, `AlreadyOpen` for OPEN while open; every other word gives a next state.
`op` is the word's low three bits; `op >= 4` is R65's `op[2] = 1`. -/
def Obligations.PresentedWordsRefusedExactly : Prop :=
  ∀ (s : State) (w : Word) (rest : List HostMove), s.busy = false → s.host = .command w :: rest →
    ((w % 8 = 0b000 ∨ w % 8 = 0b011) → step s = .refused .reservedCommand) ∧
    ((w % 8 = 0b010 ∨ 4 ≤ w % 8) → s.isOpen = false → step s = .refused .notOpen) ∧
    (w % 8 = 0b001 → s.isOpen = true → step s = .refused .alreadyOpen) ∧
    ((w % 8 = 0b010 ∨ 4 ≤ w % 8) → s.isOpen = true → ∃ t, step s = .next t) ∧
    (w % 8 = 0b001 → s.isOpen = false → ∃ t, step s = .next t)

/-- R35, R125: a host step in which nothing is presented (an empty input list is the model's choice of that, log 4)
clears `rsp_valid` and keeps all else. -/
def Obligations.IdleHostStepKeepsState : Prop :=
  ∀ (s : State), s.busy = false → (s.host = [] ∨ ∃ rest, s.host = .idle :: rest) →
    step s = .next { s with rspValid := false, host := s.host.tail }

/-- R28: "While `busy = 1` the command port is not ready, and nothing presented there has any effect": the step of a busy
engine whose reset input is not asserted is the same whatever the host has in its list, and leaves that list alone. -/
def Obligations.BusyEngineIgnoresCommandPort : Prop :=
  ∀ (s t : State) (q : List HostMove), s.busy = true → s.host.head? ≠ some .reset → q.head? ≠ some .reset →
    step s = .next t → t.host = s.host ∧ step { s with host := q } = .next { t with host := q }

/-! ### Reset and configuration -/

/-- R39: the reset value of every state item. -/
def Obligations.ResetStateValues : Prop := AtReset State.reset

/-- R127: a step in which `rst` is asserted sets every state item to its reset value, whatever the engine is doing, and
drives no line; parameters, the device's input and the record of the run are kept. -/
def Obligations.ResetRestoresEveryItem : Prop :=
  ∀ (s : State) (rest : List HostMove), s.host = .reset :: rest →
    ∃ t, step s = .next t ∧ AtReset t ∧ (∀ l, t.line l = .z) ∧
      t.cfg = s.cfg ∧ t.host = rest ∧ t.di = s.di ∧ t.samples = s.samples ∧ t.trace = s.trace ∧ t.now = s.now ∧
      t.events = s.events

/-- R127: a command abandoned by reset after `k` of its events has performed exactly those, has no completion writes, and
leaves every state item at its reset value. -/
def Obligations.ResetAbandonsCommandAtItsEvent : Prop :=
  ∀ (s : State) (w : Word) (k : Nat) (rest : List HostMove) (i : Instr),
    s.host = .interrupted w k :: rest → decode s.cfg.geom w = .ok i → Permitted s i →
    ∃ t, step s = .next t ∧ AtReset t ∧ (∀ l, t.line l = .z) ∧ t.cfg = s.cfg ∧ t.host = rest ∧
      t.eventTrace = s.eventTrace ++ (eventsOf s.cfg i).take k

/-- R8, R58 and R123: a configuration is refused exactly when the parameters break R8's list or another engine has one of
the pins; otherwise the engine stands in its reset state with those parameters. Neither refusal comes while the engine
runs, and no Transfer's count exceeds the shift registers' `WMAX` bits. Two points are the model's: that one common pin is
enough is log 15's reading of R123, and that `BadGeometry` comes first where both hold is log 21's choice. -/
def Obligations.ConfigurationRefusedExactly : Prop :=
  ∀ (p : Params) (others : List Pins),
    let wellFormed := 1 ≤ p.geom.ps ∧ 1 ≤ p.geom.aw ∧ p.tWriteCount = 250 ∧ (p.writeUnit = 1 ∨ p.writeUnit = 1000)
    let shared := ∃ q ∈ others, ∃ pin, pin ∈ p.pins.toList ∧ pin ∈ q.toList
    (¬ wellFormed → configure p others = .refused .badGeometry) ∧
    (wellFormed → shared → configure p others = .refused .sharedLines) ∧
    (wellFormed → ¬ shared → ∃ s, configure p others = .next s ∧ s.cfg = p ∧ AtReset s) ∧
    (∀ s, step s ≠ .refused .badGeometry ∧ step s ≠ .refused .sharedLines) ∧
    (∀ n, n ∈ [3, p.geom.aw, p.geom.ps, p.geom.ps + 1] → n ≤ p.geom.wmax)

/-! ### The commands: what each does, and all it does -/

/-- R77: OPEN on a closed idle engine. It claims the lines, writes every latch to 0 and sets `open`; everything not named
is unchanged, `rdata` and `rraw` among it. That `seq` stays at 10 on the idle engine is the model's reading (log 8). -/
def Obligations.OpenClaimsTheLines : Prop :=
  ∀ (s : State) (a d : Word), s.busy = false → s.isOpen = false →
    ∃ t, exec (.openCmd a d) s = .next t ∧
      t = { s with
            dir := ⟨.out, .out, .inn, .out, .out⟩, lvl := ⟨false, false, false, false⟩
            isOpen := true, busy := false
            cur := ⟨0b001#3, a % 2 ^ s.cfg.geom.aw, d % 2 ^ s.cfg.geom.ps⟩, seq := 10, tmr := 0, rspValid := false
            events := s.events + 10, now := t.now, trace := t.trace }

/-- R78: the 10 events of OPEN, in order. -/
def Obligations.OpenPerformsItsTenEvents : Prop :=
  ∀ (s : State) (a d : Word), s.busy = false → s.isOpen = false →
    ∃ t, exec (.openCmd a d) s = .next t ∧
      t.eventTrace = s.eventTrace ++
        [.set .cs false, .set .clk false, .set .dout false, .set .pe false,
         .dir .cs .out, .dir .clk .out, .dir .di .inn, .dir .dout .out, .dir .pe .out, .wait s.cfg.tPeSetup]

/-- R79: CLOSE on an open idle engine. It releases all five lines and clears `open`; the latches and everything else not
named are unchanged. That `seq` stays at 5 on the idle engine is the model's reading (log 8). -/
def Obligations.CloseReleasesTheLines : Prop :=
  ∀ (s : State) (a d : Word), s.busy = false → s.isOpen = true →
    ∃ t, exec (.closeCmd a d) s = .next t ∧
      t = { s with
            dir := ⟨.inn, .inn, .inn, .inn, .inn⟩
            isOpen := false, busy := false
            cur := ⟨0b010#3, a % 2 ^ s.cfg.geom.aw, d % 2 ^ s.cfg.geom.ps⟩, seq := 5, rspValid := false
            events := s.events + 5, now := t.now, trace := t.trace }

/-- R80: the 5 events of CLOSE, in order. -/
def Obligations.ClosePerformsItsFiveEvents : Prop :=
  ∀ (s : State) (a d : Word), s.busy = false → s.isOpen = true →
    ∃ t, exec (.closeCmd a d) s = .next t ∧
      t.eventTrace = s.eventTrace ++
        [.dir .cs .inn, .dir .clk .inn, .dir .di .inn, .dir .dout .inn, .dir .pe .inn]

/-- R102 (and R100's state written): READ on an open idle engine. With `s_m` the sample of read-window cell `m`,
`rraw = Σ_{m=0}^{PS} s_m · 2^(PS-m)`, `rdata = Σ_{m=1}^{PS} s_m · 2^(PS-m)` and `rraw[PS] = s_0`; `rsp_valid` is set.
Everything not named is unchanged. What `seq`, `tx`, `rx` and `bi` hold after completion is the model's reading (log 8). -/
def Obligations.ReadReturnsTheWindowSamples : Prop :=
  ∀ (s : State) (a d : Word), s.busy = false → s.isOpen = true →
    let ps := s.cfg.geom.ps
    let aw := s.cfg.geom.aw
    let sm := fun m => s.diAt (3 + aw + m)
    ∃ t, exec (.read a d) s = .next t ∧
      t.rraw = ∑ m ∈ Finset.range (ps + 1), (sm m).toNat * 2 ^ (ps - m) ∧
      t.rdata = ∑ m ∈ Finset.Icc 1 ps, (sm m).toNat * 2 ^ (ps - m) ∧
      t.rraw.testBit ps = sm 0 ∧
      t = { s with
            lvl := ⟨false, false, false, s.lvl.pe⟩
            busy := false
            cur := ⟨0b100#3, a % 2 ^ aw, d % 2 ^ ps⟩, seq := 6 * aw + 6 * ps + 35
            tx := 0, rx := t.rraw, bi := 0, tmr := 0
            rdata := t.rdata, rraw := t.rraw, rspValid := true
            di := s.di.drop (3 + aw + ps + 1), samples := s.samples + (3 + aw + ps + 1)
            events := s.events + (6 * aw + 6 * ps + 35), now := t.now, trace := t.trace }

/-- R101: the events of READ, in order, `6·AW + 6·PS + 35` of them, each SAMPLE with the level DI then had (R15). -/
def Obligations.ReadPerformsItsEventList : Prop :=
  ∀ (s : State) (a d : Word), s.busy = false → s.isOpen = true →
    ∃ t, exec (.read a d) s = .next t ∧
      t.eventTrace = s.eventTrace ++ readEvents s.cfg a ∧
      (readEvents s.cfg a).length = 6 * s.cfg.geom.aw + 6 * s.cfg.geom.ps + 35 ∧
      t.trace.filterMap (·.sampled) =
        s.trace.filterMap (·.sampled) ++ (List.range (3 + s.cfg.geom.aw + s.cfg.geom.ps + 1)).map s.diAt

/-- R103's state written: WRITE on an open idle engine. No host-visible register changes; everything not named is
unchanged, `rdata` and `rraw` among it. Its samples reach only `rx` (R105). What `seq`, `tx`, `rx` and `bi` hold after
completion is the model's reading (log 8). -/
def Obligations.WriteLeavesResultsAlone : Prop :=
  ∀ (s : State) (a d : Word), s.busy = false → s.isOpen = true →
    let ps := s.cfg.geom.ps
    let aw := s.cfg.geom.aw
    ∃ t, exec (.write a d) s = .next t ∧
      t = { s with
            lvl := ⟨false, false, false, s.lvl.pe⟩
            busy := false
            cur := ⟨0b101#3, a % 2 ^ aw, d % 2 ^ ps⟩, seq := 6 * aw + 6 * ps + 30
            tx := d % 2 ^ ps, rx := sampleSum s (3 + aw) ps, bi := 0, tmr := 0, rspValid := false
            di := s.di.drop (3 + aw + ps), samples := s.samples + (3 + aw + ps)
            events := s.events + (6 * aw + 6 * ps + 30), now := t.now, trace := t.trace }

/-- R104: the events of WRITE, in order, `6·AW + 6·PS + 30` of them, the last the write wait. -/
def Obligations.WritePerformsItsEventList : Prop :=
  ∀ (s : State) (a d : Word), s.busy = false → s.isOpen = true →
    ∃ t, exec (.write a d) s = .next t ∧
      t.eventTrace = s.eventTrace ++ writeEvents s.cfg a d ∧
      (writeEvents s.cfg a d).length = 6 * s.cfg.geom.aw + 6 * s.cfg.geom.ps + 30 ∧
      (writeEvents s.cfg a d).getLast? = some (.wait (s.cfg.tWriteCount * s.cfg.writeUnit))

/-- R106's state written: EWEN on an open idle engine. No host-visible register changes; everything not named is
unchanged. What `seq`, `tx`, `rx` and `bi` hold after completion is the model's reading (log 8). -/
def Obligations.EwenChangesOnlyLinesAndSequencer : Prop :=
  ∀ (s : State) (a d : Word), s.busy = false → s.isOpen = true →
    let ps := s.cfg.geom.ps
    let aw := s.cfg.geom.aw
    ∃ t, exec (.ewen a d) s = .next t ∧
      t = { s with
            lvl := ⟨false, false, false, s.lvl.pe⟩
            busy := false
            cur := ⟨0b110#3, a % 2 ^ aw, d % 2 ^ ps⟩, seq := 6 * aw + 28
            tx := 2 ^ aw - 1, rx := sampleSum s 3 aw, bi := 0, tmr := 0, rspValid := false
            di := s.di.drop (3 + aw), samples := s.samples + (3 + aw)
            events := s.events + (6 * aw + 28), now := t.now, trace := t.trace }

/-- R107: the events of EWEN, in order, `6·AW + 28` of them, its payload cells all `Cell(1)`. -/
def Obligations.EwenPerformsItsEventList : Prop :=
  ∀ (s : State) (a d : Word), s.busy = false → s.isOpen = true →
    ∃ t, exec (.ewen a d) s = .next t ∧
      t.eventTrace = s.eventTrace ++ ewenEvents s.cfg ∧
      (ewenEvents s.cfg).length = 6 * s.cfg.geom.aw + 28

/-- R108's state written: EWDS on an open idle engine. No host-visible register changes; everything not named is
unchanged. What `seq`, `tx`, `rx` and `bi` hold after completion is the model's reading (log 8). -/
def Obligations.EwdsChangesOnlyLinesAndSequencer : Prop :=
  ∀ (s : State) (a d : Word), s.busy = false → s.isOpen = true →
    let ps := s.cfg.geom.ps
    let aw := s.cfg.geom.aw
    ∃ t, exec (.ewds a d) s = .next t ∧
      t = { s with
            lvl := ⟨false, false, false, s.lvl.pe⟩
            busy := false
            cur := ⟨0b111#3, a % 2 ^ aw, d % 2 ^ ps⟩, seq := 6 * aw + 28
            tx := 0, rx := sampleSum s 3 aw, bi := 0, tmr := 0, rspValid := false
            di := s.di.drop (3 + aw), samples := s.samples + (3 + aw)
            events := s.events + (6 * aw + 28), now := t.now, trace := t.trace }

/-- R109: the events of EWDS, in order, `6·AW + 28` of them, its payload cells all `Cell(0)`. -/
def Obligations.EwdsPerformsItsEventList : Prop :=
  ∀ (s : State) (a d : Word), s.busy = false → s.isOpen = true →
    ∃ t, exec (.ewds a d) s = .next t ∧
      t.eventTrace = s.eventTrace ++ ewdsEvents s.cfg ∧
      (ewdsEvents s.cfg).length = 6 * s.cfg.geom.aw + 28

/-- R111: every transaction command takes the idle-open state of R37 to the idle-open state of R37. -/
def Obligations.TransactionsEndIdleOpen : Prop :=
  ∀ (s : State) (i : Instr), i.cmd.isTransaction = true → s.isOpen = true → s.busy = false → IdleOpenLines s →
    ∃ t, exec i s = .next t ∧ t.isOpen = true ∧ t.busy = false ∧ IdleOpenLines t

/-- R63: "A command whose row in rule R64 does not use `addr` or `data` never reads that field": the outcome is the same
whatever that field holds, but for the copy of it latched in `cur`. -/
def Obligations.UnusedFieldsHaveNoEffect : Prop :=
  ∀ (s : State) (a d a' d' : Word),
    forgetFields (exec (.openCmd a d) s) = forgetFields (exec (.openCmd a' d') s) ∧
    forgetFields (exec (.closeCmd a d) s) = forgetFields (exec (.closeCmd a' d') s) ∧
    forgetData (exec (.read a d) s) = forgetData (exec (.read a d') s) ∧
    forgetFields (exec (.ewen a d) s) = forgetFields (exec (.ewen a' d') s) ∧
    forgetFields (exec (.ewds a d) s) = forgetFields (exec (.ewds a' d') s)

/-- R48: an address or data too wide for the geometry acts as its low bits, and leaves no trace in any state. -/
def Obligations.WideArgumentsActAsLowBits : Prop :=
  ∀ (s : State) (c : Cmd) (a d : Word),
    exec (c.instr a d) s = exec (c.instr (a % 2 ^ s.cfg.geom.aw) (d % 2 ^ s.cfg.geom.ps)) s

/-! ### Transfer -/

/-- R88: the result of a Transfer of `n` bits is `Σ_{j=0}^{n-1} b_j · 2^(n-1-j)`, for the `n` levels `b_j` it samples in
time order; it fits in `n` bits. CLK and DO end low (R85). -/
def Obligations.TransferCollectsSamplesMsbFirst : Prop :=
  ∀ (s : State) (value : Word) (n : Nat), 1 ≤ n → n ≤ s.cfg.geom.wmax →
    let t := s.runMicros (transfer s.cfg value n)
    t.rx = ∑ j ∈ Finset.range n, (s.diAt j).toNat * 2 ^ (n - 1 - j) ∧ t.rx < 2 ^ n ∧
    t.lvl.clk = false ∧ t.lvl.dout = false ∧ t.samples = s.samples + n

/-- R86: the event list of a Transfer of `n` bits, of length `6n + 1`. -/
def Obligations.TransferPerformsItsCells : Prop :=
  ∀ (s : State) (value : Word) (n : Nat), n ≤ s.cfg.geom.wmax →
    (s.runMicros (transfer s.cfg value n)).eventTrace = s.eventTrace ++ transferEvents s.cfg value n ∧
    (transferEvents s.cfg value n).length = 6 * n + 1

/-- R31: at every event of the cell of bit `n-1-m` of a Transfer, `tx` holds the value, `bi` the bit's position, and `rx`
the samples so far, each at its place. `e` is how many of the cell's six events are done, counting its SAMPLE. -/
def Obligations.DatapathHoldsTransferVariables : Prop :=
  ∀ (s : State) (value : Word) (n m e : Nat), n ≤ s.cfg.geom.wmax → m < n → 1 ≤ e → e ≤ 6 →
    let t := s.runMicros ((transfer s.cfg value n).take (6 * m + e))
    t.tx = value % 2 ^ s.cfg.geom.wmax ∧ t.bi = n - 1 - m ∧
    t.rx = ∑ j ∈ Finset.range (m + 1), (s.diAt j).toNat * 2 ^ (n - 1 - j)

/-- R91: `n <= WMAX` for every count the commands use, and "A `value` with bits set at positions `>= n` produces the same
events as `value & ones(n)`", and the same result. -/
def Obligations.TransferReadsOnlyItsBits : Prop :=
  (∀ (g : Geometry) (n : Nat), n ∈ [3, g.aw, g.ps, g.ps + 1] → n ≤ g.wmax) ∧
  ∀ (s : State) (value : Word) (n : Nat), n ≤ s.cfg.geom.wmax →
    let t := s.runMicros (transfer s.cfg value n)
    let u := s.runMicros (transfer s.cfg (value &&& (2 ^ n - 1)) n)
    t.trace = u.trace ∧ t.rx = u.rx

/-! ### The wire -/

/-- R60: the bits on DO, first-sent first, at the rises of CLK while CS is high, for each of the four transaction
commands, from idle lines; and how many there are. -/
def Obligations.FramesOnTheWire : Prop :=
  ∀ (p : Params) (v : Levels) (a d : Word), v.clk = false →
    frameBits v (eventsOf p (.read a d)) =
      [true, true, false] ++ msbBits p.geom.aw a ++ List.replicate (p.geom.ps + 1) false ∧
    frameBits v (eventsOf p (.write a d)) =
      [true, false, true] ++ msbBits p.geom.aw a ++ msbBits p.geom.ps d ∧
    frameBits v (eventsOf p (.ewen a d)) = [true, false, false] ++ List.replicate p.geom.aw true ∧
    frameBits v (eventsOf p (.ewds a d)) = [true, false, false] ++ List.replicate p.geom.aw false ∧
    (frameBits v (eventsOf p (.read a d))).length = 3 + p.geom.aw + p.geom.ps + 1 ∧
    (frameBits v (eventsOf p (.write a d))).length = 3 + p.geom.aw + p.geom.ps ∧
    (frameBits v (eventsOf p (.ewen a d))).length = 3 + p.geom.aw ∧
    (frameBits v (eventsOf p (.ewds a d))).length = 3 + p.geom.aw

/-- R99: the CLK pulses of each transaction command are its frame's cells and one pre-pulse, the only one with CS low. -/
def Obligations.ClockPulseCounts : Prop :=
  ∀ (p : Params) (v : Levels) (a d : Word), v.clk = false →
    (clkRises v (eventsOf p (.read a d))).length = p.geom.ps + p.geom.aw + 5 ∧
    (clkRises v (eventsOf p (.write a d))).length = p.geom.ps + p.geom.aw + 4 ∧
    (clkRises v (eventsOf p (.ewen a d))).length = p.geom.aw + 4 ∧
    (clkRises v (eventsOf p (.ewds a d))).length = p.geom.aw + 4 ∧
    ∀ i : Instr, i.cmd.isTransaction = true → prePulses v (eventsOf p i) = 1

/-- R98: in every transaction command, from idle lines, CS rises once (event 6) and falls once, CLK and DO being 0 at
both; and between the two lie exactly the frame's cells, one for each bit of the frame, and the `SET(DO, 0)` that ends
each Transfer (R86). -/
def Obligations.ChipSelectFramesOneTransaction : Prop :=
  ∀ (p : Params) (i : Instr) (pe : Bool), i.cmd.isTransaction = true →
    ∃ f, edges .cs true ⟨false, false, false, pe⟩ 0 (eventsOf p i) = [6] ∧
      edges .cs false ⟨false, false, false, pe⟩ 0 (eventsOf p i) = [f] ∧
      (eventsOf p i)[f]? = some (.set .cs false) ∧ 6 < f ∧
      levelsAfter ⟨false, false, false, pe⟩ ((eventsOf p i).take 7) = ⟨true, false, false, pe⟩ ∧
      levelsAfter ⟨false, false, false, pe⟩ ((eventsOf p i).take (f + 1)) = ⟨false, false, false, pe⟩ ∧
      ((eventsOf p i).take f).drop 7 =
        ((wireFields p i).map (fun bits => bits.flatMap (cellEvents p) ++ [Event.set .dout false])).flatten

/-- R89: DO changes only while CLK is low, and CS too: before every SET of DO or CS in a command's list, from idle lines,
the CLK latch is 0. -/
def Obligations.DataAndSelectChangeWhileClockLow : Prop :=
  ∀ (p : Params) (i : Instr) (v : Levels) (k : Nat) (l : OutLine) (x : Bool), v.clk = false → l ≠ .clk →
    (eventsOf p i)[k]? = some (.set l x) → (levelsAfter v ((eventsOf p i).take k)).clk = false

/-- R82, R23: in every state of a run in order, `lvl[PE]` is 0 and `dir[DI]` is IN, also in the middle of a command. -/
def Obligations.ProgramEnableStaysLowAndDataInStaysInput : Prop :=
  ∀ (s : State), InOrder s → s.lvl.pe = false ∧ s.dir.di = .inn

/-- R82: no event a command performs ever sets PE to 1. -/
def Obligations.NoEventDrivesProgramEnableHigh : Prop :=
  ∀ (s t : State) (i : Instr), exec i s = .next t →
    ∀ x ∈ t.trace, x ∈ s.trace ∨ (x.event ≠ .set .pe true ∧ x.event ≠ .dir .di .out)

/-- R110: EWEN's and EWDS's lists have one length and differ exactly in the `SET(DO, v)` of the `AW` payload cells, where
`v` is 1 for EWEN and 0 for EWDS. -/
def Obligations.EnableAndDisableDifferOnlyInPayload : Prop :=
  ∀ (p : Params), (ewenEvents p).length = (ewdsEvents p).length ∧
    (∀ k, (¬ ∃ j, j < p.geom.aw ∧ k = 27 + 6 * j) → (ewenEvents p)[k]? = (ewdsEvents p)[k]?) ∧
    (∀ j, j < p.geom.aw → (ewenEvents p)[27 + 6 * j]? = some (.set .dout true) ∧
      (ewdsEvents p)[27 + 6 * j]? = some (.set .dout false))

/-! ### Time -/

/-- R16: no two events overlap: each event of a command comes no earlier than the end of the one before it, the first no
earlier than the command's acceptance, and the command ends no earlier than the end of its last event. Gaps are free. -/
def Obligations.EventsAreSpacedByTheirWaits : Prop :=
  ∀ (s t : State) (i : Instr), Permitted s i → exec i s = .next t →
    ∃ l, t.trace = s.trace ++ l ∧ l ≠ [] ∧
      (∀ x, l.head? = some x → s.now ≤ x.time) ∧
      (∀ k x y, l[k]? = some x → l[k + 1]? = some y → x.time + (x.event.duration : Rat) ≤ y.time) ∧
      (∀ x, l.getLast? = some x → x.time + (x.event.duration : Rat) ≤ t.now)

/-- R141: the sums of the waits of each command. -/
def Obligations.WaitSumsOfCommands : Prop :=
  ∀ (p : Params) (a d : Word),
    let ps := p.geom.ps
    let aw := p.geom.aw
    waitSum (cellEvents p true) = 2 * p.tHalf ∧ waitSum (cellEvents p false) = 2 * p.tHalf ∧
    waitSum (prePulseEvents p) = p.tPre1 + p.tPre2 ∧
    (∀ v n, waitSum (transferEvents p v n) = 2 * n * p.tHalf) ∧
    waitSum (eventsOf p (.read a d)) = p.tPre1 + p.tPre2 + 2 * (ps + aw + 4) * p.tHalf ∧
    waitSum (eventsOf p (.write a d)) =
      p.tPre1 + p.tPre2 + 2 * (ps + aw + 3) * p.tHalf + p.tWriteCount * p.writeUnit ∧
    waitSum (eventsOf p (.ewen a d)) = p.tPre1 + p.tPre2 + 2 * (aw + 3) * p.tHalf ∧
    waitSum (eventsOf p (.ewds a d)) = p.tPre1 + p.tPre2 + 2 * (aw + 3) * p.tHalf ∧
    waitSum (eventsOf p (.openCmd a d)) = p.tPeSetup ∧
    waitSum (eventsOf p (.closeCmd a d)) = 0

/-- R54, R98: between the fall of CS that ends one transaction command and the rise of CS of the next lie at least
`T_PRE1 + T_PRE2`, and after a WRITE `T_WRITE_COUNT * WRITE_UNIT` more. Event 6 is the rise; the fall is the last
`SET(CS, 0)`. -/
def Obligations.ChipSelectLowBetweenTransactions : Prop :=
  ∀ (s : State) (i j : Instr), s.busy = false → s.isOpen = true →
    i.cmd.isTransaction = true → j.cmd.isTransaction = true →
    ∃ t u l m fall rise, exec i s = .next t ∧ exec j t = .next u ∧ t.trace = s.trace ++ l ∧ u.trace = t.trace ++ m ∧
      l.reverse.find? (fun x => x.event == .set .cs false) = some fall ∧
      m[6]? = some rise ∧ rise.event = .set .cs true ∧
      fall.time + ((s.cfg.tPre1 + s.cfg.tPre2 +
        if i.cmd = .write then s.cfg.tWriteCount * s.cfg.writeUnit else 0 : Nat) : Rat) ≤ rise.time

/-- R136, R137: in every frame (after event 6, the rise of CS), whatever happened before a rise of CLK and is no WAIT
happened at least `T_HALF` before it, DO's and CS's changes among it; and each SAMPLE comes at least `T_HALF` after every
earlier rise of CLK in the frame. -/
def Obligations.HalfPeriodSetupInEveryFrame : Prop :=
  ∀ (s t : State) (i : Instr), Permitted s i → i.cmd.isTransaction = true → exec i s = .next t →
    ∃ l, t.trace = s.trace ++ l ∧
      (∀ j k x y, l[j]? = some x → l[k]? = some y → j < k → 6 < k → y.event = .set .clk true →
        (∀ w, x.event ≠ .wait w) → x.time + (s.cfg.tHalf : Rat) ≤ y.time) ∧
      (∀ j k x y, l[j]? = some x → l[k]? = some y → j < k → 6 < j → x.event = .set .clk true →
        y.event = .sample → x.time + (s.cfg.tHalf : Rat) ≤ y.time)

/-! ### Rules of the whole machine -/

/-- The reset state is in order. -/
def Obligations.ResetMeetsInvariant : Prop := InOrder State.reset

/-- Every engine that configuration accepts is in order. -/
def Obligations.ConfiguredEngineMeetsInvariant : Prop :=
  ∀ (p : Params) (others : List Pins) (s : State), configure p others = .next s → InOrder s

/-- R37 and R38, kept by every step: if an engine is in order (idle: its lines as `open` says, its registers at their
widths; busy: in the middle of a permitted command), then so is it after every step, and whenever it then is idle its
lines are those of R37 while open and those of R38 while closed. -/
def Obligations.EveryStepKeepsInvariant : Prop :=
  ∀ (s t : State), InOrder s → step s = .next t →
    InOrder t ∧ (t.isOpen = true → t.busy = false → IdleOpenLines t) ∧ (t.isOpen = false → t.busy = false → ClosedLines t)

/-- R17, R37, R38: what the engine drives while idle: nothing while closed; CS, CLK, DO and PE low while open; DI never. -/
def Obligations.IdleEngineDrivesOnlyLowLevels : Prop :=
  ∀ (s : State), InOrder s → s.busy = false →
    s.line .di = .z ∧
    (s.isOpen = false → ∀ l, s.line l = .z) ∧
    (s.isOpen = true → ∀ l, l ≠ .di → s.line l = .driven false)

/-- R69, R70: the command port's `cmd_ready` and the line port of an engine in order: it is ready for a command exactly
when it is not busy, the port's outputs are the latches, it never drives DI, and it drives each other line exactly when
that line's direction is OUT. -/
def Obligations.PortsNeverDriveDataIn : Prop :=
  ∀ (s : State), InOrder s →
    s.linePort.diOe = false ∧ s.statusPort.cmdReady = !s.busy ∧
    s.linePort.csO = s.lvl.cs ∧ s.linePort.clkO = s.lvl.clk ∧ s.linePort.doO = s.lvl.dout ∧ s.linePort.peO = s.lvl.pe ∧
    (s.linePort.csOe = true ↔ s.dir.cs = .out) ∧ (s.linePort.clkOe = true ↔ s.dir.clk = .out) ∧
    (s.linePort.doOe = true ↔ s.dir.dout = .out) ∧ (s.linePort.peOe = true ↔ s.dir.pe = .out) ∧
    (s.linePort.csOe = true ↔ s.line .cs = .driven s.lvl.cs) ∧ (s.linePort.clkOe = true ↔ s.line .clk = .driven s.lvl.clk) ∧
    (s.linePort.doOe = true ↔ s.line .dout = .driven s.lvl.dout) ∧ (s.linePort.peOe = true ↔ s.line .pe = .driven s.lvl.pe)

/-- R113: an engine in order never faults, and a busy one is never refused anything: "No input on DI, no value of `addr`
or `data`, and no timing of the device can make a command fail, stall or end early". -/
def Obligations.EngineInOrderNeverFaults : Prop :=
  ∀ (s : State), InOrder s → (∀ f, step s ≠ .fault f) ∧ (s.busy = true → ∃ t, step s = .next t)

/-- R41: the parameters are "never … mutable fields": no step changes them. -/
def Obligations.ParametersNeverChange : Prop :=
  ∀ (s t : State), step s = .next t → t.cfg = s.cfg

/-- R33, R34: only the completion of a READ writes `rdata` and `rraw`, and only reset clears them. -/
def Obligations.OnlyReadAndResetWriteResults : Prop :=
  ∀ (s t : State), step s = .next t → t.rdata ≠ s.rdata ∨ t.rraw ≠ s.rraw → ReadCompletesIn s ∨ ResetIn s

/-- R35: "It is 1 for exactly the host step right after a READ completes, and 0 otherwise": after a step, `rsp_valid` is 1
exactly when a READ completed in it; at reset it is 0. -/
def Obligations.ResponseValidExactlyAfterRead : Prop :=
  State.reset.rspValid = false ∧
  ∀ (s t : State), InOrder s → step s = .next t → (t.rspValid = true ↔ ReadCompletesIn s)

/-- R26, R119: `open` is 1 after a step exactly as OPEN, CLOSE and reset say: a step that changes it ran one of them. -/
def Obligations.OnlyLifecycleCommandsAndResetChangeOpen : Prop :=
  ∀ (s t : State), step s = .next t → t.isOpen ≠ s.isOpen →
    ResetIn s ∨ (t.isOpen = true ∧ Cmd.ofCode t.cur.op = some .openCmd) ∨
      (t.isOpen = false ∧ Cmd.ofCode t.cur.op = some .closeCmd)

/-- R51: what the device shows on DI reaches only the values of the SAMPLEs, `rx`, and for READ `rdata` and `rraw`: with
any other input from the device the outcome differs in nothing else, and the trace has the same events at the same
times. -/
def Obligations.DeviceReachesOnlySamplesAndResults : Prop :=
  ∀ (s t : State) (i : Instr) (di' : List Bool) (n' : Nat), exec i s = .next t →
    ∃ t', exec i { s with di := di', samples := n' } = .next t' ∧
      t' = { t with rx := t'.rx, rdata := t'.rdata, rraw := t'.rraw, di := t'.di, samples := t'.samples, trace := t'.trace } ∧
      t'.trace.map (fun x => (x.time, x.event)) = t.trace.map (fun x => (x.time, x.event)) ∧
      (i.cmd ≠ .read → t'.rdata = t.rdata ∧ t'.rraw = t.rraw)

/-- R71: the two granularities agree: from the acceptance of a permitted command, one sequencer step for each of its
events leads to the very state `exec` gives, as long as `rst` is not asserted. -/
def Obligations.SequencerStepsReachCommandResult : Prop :=
  ∀ (s t : State) (i : Instr), Permitted s i → s.host.head? ≠ some .reset → exec i s = .next t →
    Host.Core.run core (eventsOf s.cfg i).length (s.accept i) = .next t

/-- R126: a busy engine in order is idle again after as many steps as its command has events left, as long as `rst` is
not asserted; steps in between keep it busy. It takes the sum of the waits left and of the gaps before the events left.
That the sum is finite is R126's fairness assumption (log 22): every gap is. -/
def Obligations.BusyEngineFinishesItsEvents : Prop :=
  ∀ (s : State), InOrder s → s.busy = true → s.host.head? ≠ some .reset →
    ∃ c, Cmd.ofCode s.cur.op = some c ∧
      let left := (program s.cfg c s.cur.addr s.cur.data).length - s.seq
      (∃ t, Host.Core.run core left s = .next t ∧ t.busy = false ∧
        t.now = s.now + (waitSum ((eventsOf s.cfg (c.instr s.cur.addr s.cur.data)).drop s.seq) : Rat) +
          ∑ j ∈ Finset.range left, Config.gap (s.events + j)) ∧
      ∀ k, k < left → ∃ u, Host.Core.run core k s = .next u ∧ u.busy = true

/-- R57: a device that keeps the data bits a WRITE sent, and answers the READ's window with a 0 and then those bits, makes
the READ return the written value. The bits are the last `PS` bits on the wire of the WRITE, and the READ's address bits
on the wire are the WRITE's. -/
def Obligations.ReadAfterWriteReturnsTheValue : Prop :=
  ∀ (s : State) (a v x : Word), s.busy = false → s.isOpen = true → IdleOpenLines s →
    ∃ t u, exec (.write a v) s = .next t ∧ exec (.read a x) t = .next u ∧
      let ps := s.cfg.geom.ps
      let aw := s.cfg.geom.aw
      let sent := frameBits s.lvl (t.eventTrace.drop s.eventTrace.length)
      let asked := frameBits t.lvl (u.eventTrace.drop t.eventTrace.length)
      (asked.drop 3).take aw = (sent.drop 3).take aw ∧
      (t.diAt (3 + aw) = false → (∀ m, m < ps → some (t.diAt (3 + aw + 1 + m)) = (sent.drop (3 + aw))[m]?) →
        u.rdata = v % 2 ^ ps ∧ u.rraw = v % 2 ^ ps)

/-! ### The response port, the host's duty, a transport at work -/

/-- R70: what the host reads on the status and response port is `open`, `busy`, `rsp_valid`, `rdata` and `rraw`, and on an
engine in order the two results have their widths, `rsp_data` being the low `PS` bits of `rsp_raw`. -/
def Obligations.ResponsePortShowsResultRegisters : Prop :=
  ∀ (s : State), InOrder s →
    s.statusPort.isOpen = s.isOpen ∧ s.statusPort.busy = s.busy ∧ s.statusPort.rspValid = s.rspValid ∧
    s.statusPort.rspData = s.rdata ∧ s.statusPort.rspRaw = s.rraw ∧
    s.statusPort.rspData < 2 ^ s.cfg.geom.ps ∧ s.statusPort.rspRaw < 2 ^ (s.cfg.geom.ps + 1) ∧
    s.statusPort.rspRaw % 2 ^ s.cfg.geom.ps = s.statusPort.rspData

/-- R83: an idle engine in order, run through all the host's moves: if the host ends every lifetime, every line is
released; if it leaves one open, PE is driven low. The first is a host duty (`HostEndsLifetimes`), no engine guarantee. -/
def Obligations.LinesReleasedExactlyIfHostEndsLifetimes : Prop :=
  ∀ (s t : State), InOrder s → s.busy = false → Host.Core.run core s.host.length s = .next t →
    (HostEndsLifetimes s → ∀ l, t.line l = .z) ∧ (¬ HostEndsLifetimes s → t.line .pe = .driven false)

/-- R130 with R57: under the configuration premises, an engine that is configured, opened, made to write `v` to page `a`,
made to read page `a` and closed completes all of it. While it is open each pin is driven by its own role alone, and after
CLOSE none is. If the device, by its own geometry, finds page `a` in both frames (which is so), keeps the data bits of the
WRITE and answers the READ's window with a 0 and then those bits, then `rdata = v`. -/
def Obligations.BootedTransportReadsBackWhatItWrote : Prop :=
  ∀ (p : Params) (device : Geometry) (others : List Pins) (agents : List (List Nat)) (shown : List Bool) (a v x : Word),
    BootPremises p device others agents →
    ∃ s0 s1 s2 s3 s4, configure p others = .next s0 ∧ exec (.openCmd 0 0) { s0 with di := shown } = .next s1 ∧
      exec (.write a v) s1 = .next s2 ∧ exec (.read a x) s2 = .next s3 ∧ exec (.closeCmd 0 0) s3 = .next s4 ∧
      (∀ t ∈ [s1, s2, s3], ∀ l, t.driversAt (pinOf p.pins l) = (if l = .di then [] else [l]) ∧
        ∀ drives ∈ agents, pinOf p.pins l ∉ drives) ∧
      (∀ n, s4.driversAt n = []) ∧
      let sent := frameBits s1.lvl (s2.eventTrace.drop s1.eventTrace.length)
      let asked := frameBits s2.lvl (s3.eventTrace.drop s2.eventTrace.length)
      (sent.drop 3).take device.aw = msbBits device.aw a ∧ (asked.drop 3).take device.aw = msbBits device.aw a ∧
      (s2.diAt (3 + device.aw) = false →
        (∀ m, m < device.ps → some (s2.diAt (3 + device.aw + 1 + m)) = (sent.drop (3 + device.aw))[m]?) →
        s3.rdata = v % 2 ^ device.ps)
end

