-- ==== Sys2Proof/Laws/State.lean ====
section
/-! SUPPORT. What each update of the state does to each field: one lemma a field, true by rfl. -/

namespace Sys2Proof.Machine

variable (s : State)

/-! ### setDir -/

@[simp] theorem setDir_cfg (l : Line) (d : Dir) : (s.setDir l d).cfg = s.cfg := rfl
@[simp] theorem setDir_dir (l : Line) (d : Dir) : (s.setDir l d).dir = s.dir.put l d := rfl
@[simp] theorem setDir_lvl (l : Line) (d : Dir) : (s.setDir l d).lvl = s.lvl := rfl
@[simp] theorem setDir_isOpen (l : Line) (d : Dir) : (s.setDir l d).isOpen = s.isOpen := rfl
@[simp] theorem setDir_busy (l : Line) (d : Dir) : (s.setDir l d).busy = s.busy := rfl
@[simp] theorem setDir_cur (l : Line) (d : Dir) : (s.setDir l d).cur = s.cur := rfl
@[simp] theorem setDir_seq (l : Line) (d : Dir) : (s.setDir l d).seq = s.seq := rfl
@[simp] theorem setDir_tx (l : Line) (d : Dir) : (s.setDir l d).tx = s.tx := rfl
@[simp] theorem setDir_rx (l : Line) (d : Dir) : (s.setDir l d).rx = s.rx := rfl
@[simp] theorem setDir_bi (l : Line) (d : Dir) : (s.setDir l d).bi = s.bi := rfl
@[simp] theorem setDir_tmr (l : Line) (d : Dir) : (s.setDir l d).tmr = s.tmr := rfl
@[simp] theorem setDir_rdata (l : Line) (d : Dir) : (s.setDir l d).rdata = s.rdata := rfl
@[simp] theorem setDir_rraw (l : Line) (d : Dir) : (s.setDir l d).rraw = s.rraw := rfl
@[simp] theorem setDir_rspValid (l : Line) (d : Dir) : (s.setDir l d).rspValid = s.rspValid := rfl
@[simp] theorem setDir_host (l : Line) (d : Dir) : (s.setDir l d).host = s.host := rfl
@[simp] theorem setDir_di (l : Line) (d : Dir) : (s.setDir l d).di = s.di := rfl
@[simp] theorem setDir_samples (l : Line) (d : Dir) : (s.setDir l d).samples = s.samples := rfl
@[simp] theorem setDir_events (l : Line) (d : Dir) : (s.setDir l d).events = s.events := rfl
@[simp] theorem setDir_now (l : Line) (d : Dir) : (s.setDir l d).now = s.now := rfl
@[simp] theorem setDir_trace (l : Line) (d : Dir) : (s.setDir l d).trace = s.trace := rfl

/-! ### setLvl -/

@[simp] theorem setLvl_cfg (l : OutLine) (v : Bool) : (s.setLvl l v).cfg = s.cfg := rfl
@[simp] theorem setLvl_dir (l : OutLine) (v : Bool) : (s.setLvl l v).dir = s.dir := rfl
@[simp] theorem setLvl_lvl (l : OutLine) (v : Bool) : (s.setLvl l v).lvl = s.lvl.put l v := rfl
@[simp] theorem setLvl_isOpen (l : OutLine) (v : Bool) : (s.setLvl l v).isOpen = s.isOpen := rfl
@[simp] theorem setLvl_busy (l : OutLine) (v : Bool) : (s.setLvl l v).busy = s.busy := rfl
@[simp] theorem setLvl_cur (l : OutLine) (v : Bool) : (s.setLvl l v).cur = s.cur := rfl
@[simp] theorem setLvl_seq (l : OutLine) (v : Bool) : (s.setLvl l v).seq = s.seq := rfl
@[simp] theorem setLvl_tx (l : OutLine) (v : Bool) : (s.setLvl l v).tx = s.tx := rfl
@[simp] theorem setLvl_rx (l : OutLine) (v : Bool) : (s.setLvl l v).rx = s.rx := rfl
@[simp] theorem setLvl_bi (l : OutLine) (v : Bool) : (s.setLvl l v).bi = s.bi := rfl
@[simp] theorem setLvl_tmr (l : OutLine) (v : Bool) : (s.setLvl l v).tmr = s.tmr := rfl
@[simp] theorem setLvl_rdata (l : OutLine) (v : Bool) : (s.setLvl l v).rdata = s.rdata := rfl
@[simp] theorem setLvl_rraw (l : OutLine) (v : Bool) : (s.setLvl l v).rraw = s.rraw := rfl
@[simp] theorem setLvl_rspValid (l : OutLine) (v : Bool) : (s.setLvl l v).rspValid = s.rspValid := rfl
@[simp] theorem setLvl_host (l : OutLine) (v : Bool) : (s.setLvl l v).host = s.host := rfl
@[simp] theorem setLvl_di (l : OutLine) (v : Bool) : (s.setLvl l v).di = s.di := rfl
@[simp] theorem setLvl_samples (l : OutLine) (v : Bool) : (s.setLvl l v).samples = s.samples := rfl
@[simp] theorem setLvl_events (l : OutLine) (v : Bool) : (s.setLvl l v).events = s.events := rfl
@[simp] theorem setLvl_now (l : OutLine) (v : Bool) : (s.setLvl l v).now = s.now := rfl
@[simp] theorem setLvl_trace (l : OutLine) (v : Bool) : (s.setLvl l v).trace = s.trace := rfl

/-! ### note -/

@[simp] theorem note_cfg (e : Event) (b : Option Bool) : (s.note e b).cfg = s.cfg := rfl
@[simp] theorem note_dir (e : Event) (b : Option Bool) : (s.note e b).dir = s.dir := rfl
@[simp] theorem note_lvl (e : Event) (b : Option Bool) : (s.note e b).lvl = s.lvl := rfl
@[simp] theorem note_isOpen (e : Event) (b : Option Bool) : (s.note e b).isOpen = s.isOpen := rfl
@[simp] theorem note_busy (e : Event) (b : Option Bool) : (s.note e b).busy = s.busy := rfl
@[simp] theorem note_cur (e : Event) (b : Option Bool) : (s.note e b).cur = s.cur := rfl
@[simp] theorem note_seq (e : Event) (b : Option Bool) : (s.note e b).seq = s.seq := rfl
@[simp] theorem note_tx (e : Event) (b : Option Bool) : (s.note e b).tx = s.tx := rfl
@[simp] theorem note_rx (e : Event) (b : Option Bool) : (s.note e b).rx = s.rx := rfl
@[simp] theorem note_bi (e : Event) (b : Option Bool) : (s.note e b).bi = s.bi := rfl
@[simp] theorem note_tmr (e : Event) (b : Option Bool) : (s.note e b).tmr = s.tmr := rfl
@[simp] theorem note_rdata (e : Event) (b : Option Bool) : (s.note e b).rdata = s.rdata := rfl
@[simp] theorem note_rraw (e : Event) (b : Option Bool) : (s.note e b).rraw = s.rraw := rfl
@[simp] theorem note_rspValid (e : Event) (b : Option Bool) : (s.note e b).rspValid = s.rspValid := rfl
@[simp] theorem note_host (e : Event) (b : Option Bool) : (s.note e b).host = s.host := rfl
@[simp] theorem note_di (e : Event) (b : Option Bool) : (s.note e b).di = s.di := rfl
@[simp] theorem note_samples (e : Event) (b : Option Bool) : (s.note e b).samples = s.samples := rfl
@[simp] theorem note_events (e : Event) (b : Option Bool) : (s.note e b).events = s.events + 1 := rfl
@[simp] theorem note_now (e : Event) (b : Option Bool) : (s.note e b).now = s.now + Config.gap s.events := rfl
@[simp] theorem note_trace (e : Event) (b : Option Bool) : (s.note e b).trace = s.trace ++ [⟨s.now + Config.gap s.events, e, b⟩] := rfl

/-! ### loadTimer -/

@[simp] theorem loadTimer_cfg (t : Nat) : (s.loadTimer t).cfg = s.cfg := rfl
@[simp] theorem loadTimer_dir (t : Nat) : (s.loadTimer t).dir = s.dir := rfl
@[simp] theorem loadTimer_lvl (t : Nat) : (s.loadTimer t).lvl = s.lvl := rfl
@[simp] theorem loadTimer_isOpen (t : Nat) : (s.loadTimer t).isOpen = s.isOpen := rfl
@[simp] theorem loadTimer_busy (t : Nat) : (s.loadTimer t).busy = s.busy := rfl
@[simp] theorem loadTimer_cur (t : Nat) : (s.loadTimer t).cur = s.cur := rfl
@[simp] theorem loadTimer_seq (t : Nat) : (s.loadTimer t).seq = s.seq := rfl
@[simp] theorem loadTimer_tx (t : Nat) : (s.loadTimer t).tx = s.tx := rfl
@[simp] theorem loadTimer_rx (t : Nat) : (s.loadTimer t).rx = s.rx := rfl
@[simp] theorem loadTimer_bi (t : Nat) : (s.loadTimer t).bi = s.bi := rfl
@[simp] theorem loadTimer_tmr (t : Nat) : (s.loadTimer t).tmr = t := rfl
@[simp] theorem loadTimer_rdata (t : Nat) : (s.loadTimer t).rdata = s.rdata := rfl
@[simp] theorem loadTimer_rraw (t : Nat) : (s.loadTimer t).rraw = s.rraw := rfl
@[simp] theorem loadTimer_rspValid (t : Nat) : (s.loadTimer t).rspValid = s.rspValid := rfl
@[simp] theorem loadTimer_host (t : Nat) : (s.loadTimer t).host = s.host := rfl
@[simp] theorem loadTimer_di (t : Nat) : (s.loadTimer t).di = s.di := rfl
@[simp] theorem loadTimer_samples (t : Nat) : (s.loadTimer t).samples = s.samples := rfl
@[simp] theorem loadTimer_events (t : Nat) : (s.loadTimer t).events = s.events := rfl
@[simp] theorem loadTimer_now (t : Nat) : (s.loadTimer t).now = s.now := rfl
@[simp] theorem loadTimer_trace (t : Nat) : (s.loadTimer t).trace = s.trace := rfl

/-! ### runTimer -/

@[simp] theorem runTimer_cfg : (s.runTimer).cfg = s.cfg := rfl
@[simp] theorem runTimer_dir : (s.runTimer).dir = s.dir := rfl
@[simp] theorem runTimer_lvl : (s.runTimer).lvl = s.lvl := rfl
@[simp] theorem runTimer_isOpen : (s.runTimer).isOpen = s.isOpen := rfl
@[simp] theorem runTimer_busy : (s.runTimer).busy = s.busy := rfl
@[simp] theorem runTimer_cur : (s.runTimer).cur = s.cur := rfl
@[simp] theorem runTimer_seq : (s.runTimer).seq = s.seq := rfl
@[simp] theorem runTimer_tx : (s.runTimer).tx = s.tx := rfl
@[simp] theorem runTimer_rx : (s.runTimer).rx = s.rx := rfl
@[simp] theorem runTimer_bi : (s.runTimer).bi = s.bi := rfl
@[simp] theorem runTimer_tmr : (s.runTimer).tmr = 0 := rfl
@[simp] theorem runTimer_rdata : (s.runTimer).rdata = s.rdata := rfl
@[simp] theorem runTimer_rraw : (s.runTimer).rraw = s.rraw := rfl
@[simp] theorem runTimer_rspValid : (s.runTimer).rspValid = s.rspValid := rfl
@[simp] theorem runTimer_host : (s.runTimer).host = s.host := rfl
@[simp] theorem runTimer_di : (s.runTimer).di = s.di := rfl
@[simp] theorem runTimer_samples : (s.runTimer).samples = s.samples := rfl
@[simp] theorem runTimer_events : (s.runTimer).events = s.events := rfl
@[simp] theorem runTimer_now : (s.runTimer).now = s.now + (s.tmr : Rat) := rfl
@[simp] theorem runTimer_trace : (s.runTimer).trace = s.trace := rfl

/-! ### startTransfer -/

@[simp] theorem startTransfer_cfg (v : Word) (n : Nat) : (s.startTransfer v n).cfg = s.cfg := rfl
@[simp] theorem startTransfer_dir (v : Word) (n : Nat) : (s.startTransfer v n).dir = s.dir := rfl
@[simp] theorem startTransfer_lvl (v : Word) (n : Nat) : (s.startTransfer v n).lvl = s.lvl := rfl
@[simp] theorem startTransfer_isOpen (v : Word) (n : Nat) : (s.startTransfer v n).isOpen = s.isOpen := rfl
@[simp] theorem startTransfer_busy (v : Word) (n : Nat) : (s.startTransfer v n).busy = s.busy := rfl
@[simp] theorem startTransfer_cur (v : Word) (n : Nat) : (s.startTransfer v n).cur = s.cur := rfl
@[simp] theorem startTransfer_seq (v : Word) (n : Nat) : (s.startTransfer v n).seq = s.seq := rfl
@[simp] theorem startTransfer_tx (v : Word) (n : Nat) : (s.startTransfer v n).tx = trunc s.cfg.geom.wmax v := rfl
@[simp] theorem startTransfer_rx (v : Word) (n : Nat) : (s.startTransfer v n).rx = 0 := rfl
@[simp] theorem startTransfer_bi (v : Word) (n : Nat) : (s.startTransfer v n).bi = trunc s.cfg.geom.biWidth (n - 1) := rfl
@[simp] theorem startTransfer_tmr (v : Word) (n : Nat) : (s.startTransfer v n).tmr = s.tmr := rfl
@[simp] theorem startTransfer_rdata (v : Word) (n : Nat) : (s.startTransfer v n).rdata = s.rdata := rfl
@[simp] theorem startTransfer_rraw (v : Word) (n : Nat) : (s.startTransfer v n).rraw = s.rraw := rfl
@[simp] theorem startTransfer_rspValid (v : Word) (n : Nat) : (s.startTransfer v n).rspValid = s.rspValid := rfl
@[simp] theorem startTransfer_host (v : Word) (n : Nat) : (s.startTransfer v n).host = s.host := rfl
@[simp] theorem startTransfer_di (v : Word) (n : Nat) : (s.startTransfer v n).di = s.di := rfl
@[simp] theorem startTransfer_samples (v : Word) (n : Nat) : (s.startTransfer v n).samples = s.samples := rfl
@[simp] theorem startTransfer_events (v : Word) (n : Nat) : (s.startTransfer v n).events = s.events := rfl
@[simp] theorem startTransfer_now (v : Word) (n : Nat) : (s.startTransfer v n).now = s.now := rfl
@[simp] theorem startTransfer_trace (v : Word) (n : Nat) : (s.startTransfer v n).trace = s.trace := rfl

/-! ### nextBit -/

@[simp] theorem nextBit_cfg : (s.nextBit).cfg = s.cfg := rfl
@[simp] theorem nextBit_dir : (s.nextBit).dir = s.dir := rfl
@[simp] theorem nextBit_lvl : (s.nextBit).lvl = s.lvl := rfl
@[simp] theorem nextBit_isOpen : (s.nextBit).isOpen = s.isOpen := rfl
@[simp] theorem nextBit_busy : (s.nextBit).busy = s.busy := rfl
@[simp] theorem nextBit_cur : (s.nextBit).cur = s.cur := rfl
@[simp] theorem nextBit_seq : (s.nextBit).seq = s.seq := rfl
@[simp] theorem nextBit_tx : (s.nextBit).tx = s.tx := rfl
@[simp] theorem nextBit_rx : (s.nextBit).rx = s.rx := rfl
@[simp] theorem nextBit_bi : (s.nextBit).bi = s.bi - 1 := rfl
@[simp] theorem nextBit_tmr : (s.nextBit).tmr = s.tmr := rfl
@[simp] theorem nextBit_rdata : (s.nextBit).rdata = s.rdata := rfl
@[simp] theorem nextBit_rraw : (s.nextBit).rraw = s.rraw := rfl
@[simp] theorem nextBit_rspValid : (s.nextBit).rspValid = s.rspValid := rfl
@[simp] theorem nextBit_host : (s.nextBit).host = s.host := rfl
@[simp] theorem nextBit_di : (s.nextBit).di = s.di := rfl
@[simp] theorem nextBit_samples : (s.nextBit).samples = s.samples := rfl
@[simp] theorem nextBit_events : (s.nextBit).events = s.events := rfl
@[simp] theorem nextBit_now : (s.nextBit).now = s.now := rfl
@[simp] theorem nextBit_trace : (s.nextBit).trace = s.trace := rfl

/-! ### capture -/

@[simp] theorem capture_cfg (b : Bool) : (s.capture b).cfg = s.cfg := rfl
@[simp] theorem capture_dir (b : Bool) : (s.capture b).dir = s.dir := rfl
@[simp] theorem capture_lvl (b : Bool) : (s.capture b).lvl = s.lvl := rfl
@[simp] theorem capture_isOpen (b : Bool) : (s.capture b).isOpen = s.isOpen := rfl
@[simp] theorem capture_busy (b : Bool) : (s.capture b).busy = s.busy := rfl
@[simp] theorem capture_cur (b : Bool) : (s.capture b).cur = s.cur := rfl
@[simp] theorem capture_seq (b : Bool) : (s.capture b).seq = s.seq := rfl
@[simp] theorem capture_tx (b : Bool) : (s.capture b).tx = s.tx := rfl
@[simp] theorem capture_rx (b : Bool) : (s.capture b).rx = trunc s.cfg.geom.wmax (s.rx ||| (b.toNat <<< s.bi)) := rfl
@[simp] theorem capture_bi (b : Bool) : (s.capture b).bi = s.bi := rfl
@[simp] theorem capture_tmr (b : Bool) : (s.capture b).tmr = s.tmr := rfl
@[simp] theorem capture_rdata (b : Bool) : (s.capture b).rdata = s.rdata := rfl
@[simp] theorem capture_rraw (b : Bool) : (s.capture b).rraw = s.rraw := rfl
@[simp] theorem capture_rspValid (b : Bool) : (s.capture b).rspValid = s.rspValid := rfl
@[simp] theorem capture_host (b : Bool) : (s.capture b).host = s.host := rfl
@[simp] theorem capture_di (b : Bool) : (s.capture b).di = s.di := rfl
@[simp] theorem capture_samples (b : Bool) : (s.capture b).samples = s.samples := rfl
@[simp] theorem capture_events (b : Bool) : (s.capture b).events = s.events := rfl
@[simp] theorem capture_now (b : Bool) : (s.capture b).now = s.now := rfl
@[simp] theorem capture_trace (b : Bool) : (s.capture b).trace = s.trace := rfl

/-! ### consumeDi -/

@[simp] theorem consumeDi_cfg : (s.consumeDi).cfg = s.cfg := rfl
@[simp] theorem consumeDi_dir : (s.consumeDi).dir = s.dir := rfl
@[simp] theorem consumeDi_lvl : (s.consumeDi).lvl = s.lvl := rfl
@[simp] theorem consumeDi_isOpen : (s.consumeDi).isOpen = s.isOpen := rfl
@[simp] theorem consumeDi_busy : (s.consumeDi).busy = s.busy := rfl
@[simp] theorem consumeDi_cur : (s.consumeDi).cur = s.cur := rfl
@[simp] theorem consumeDi_seq : (s.consumeDi).seq = s.seq := rfl
@[simp] theorem consumeDi_tx : (s.consumeDi).tx = s.tx := rfl
@[simp] theorem consumeDi_rx : (s.consumeDi).rx = s.rx := rfl
@[simp] theorem consumeDi_bi : (s.consumeDi).bi = s.bi := rfl
@[simp] theorem consumeDi_tmr : (s.consumeDi).tmr = s.tmr := rfl
@[simp] theorem consumeDi_rdata : (s.consumeDi).rdata = s.rdata := rfl
@[simp] theorem consumeDi_rraw : (s.consumeDi).rraw = s.rraw := rfl
@[simp] theorem consumeDi_rspValid : (s.consumeDi).rspValid = s.rspValid := rfl
@[simp] theorem consumeDi_host : (s.consumeDi).host = s.host := rfl
@[simp] theorem consumeDi_di : (s.consumeDi).di = s.di.tail := rfl
@[simp] theorem consumeDi_samples : (s.consumeDi).samples = s.samples + 1 := rfl
@[simp] theorem consumeDi_events : (s.consumeDi).events = s.events := rfl
@[simp] theorem consumeDi_now : (s.consumeDi).now = s.now := rfl
@[simp] theorem consumeDi_trace : (s.consumeDi).trace = s.trace := rfl

/-! ### advance -/

@[simp] theorem advance_cfg : (s.advance).cfg = s.cfg := rfl
@[simp] theorem advance_dir : (s.advance).dir = s.dir := rfl
@[simp] theorem advance_lvl : (s.advance).lvl = s.lvl := rfl
@[simp] theorem advance_isOpen : (s.advance).isOpen = s.isOpen := rfl
@[simp] theorem advance_busy : (s.advance).busy = s.busy := rfl
@[simp] theorem advance_cur : (s.advance).cur = s.cur := rfl
@[simp] theorem advance_seq : (s.advance).seq = s.seq + 1 := rfl
@[simp] theorem advance_tx : (s.advance).tx = s.tx := rfl
@[simp] theorem advance_rx : (s.advance).rx = s.rx := rfl
@[simp] theorem advance_bi : (s.advance).bi = s.bi := rfl
@[simp] theorem advance_tmr : (s.advance).tmr = s.tmr := rfl
@[simp] theorem advance_rdata : (s.advance).rdata = s.rdata := rfl
@[simp] theorem advance_rraw : (s.advance).rraw = s.rraw := rfl
@[simp] theorem advance_rspValid : (s.advance).rspValid = s.rspValid := rfl
@[simp] theorem advance_host : (s.advance).host = s.host := rfl
@[simp] theorem advance_di : (s.advance).di = s.di := rfl
@[simp] theorem advance_samples : (s.advance).samples = s.samples := rfl
@[simp] theorem advance_events : (s.advance).events = s.events := rfl
@[simp] theorem advance_now : (s.advance).now = s.now := rfl
@[simp] theorem advance_trace : (s.advance).trace = s.trace := rfl

/-! ### accept -/

@[simp] theorem accept_cfg (i : Instr) : (s.accept i).cfg = s.cfg := rfl
@[simp] theorem accept_dir (i : Instr) : (s.accept i).dir = s.dir := rfl
@[simp] theorem accept_lvl (i : Instr) : (s.accept i).lvl = s.lvl := rfl
@[simp] theorem accept_isOpen (i : Instr) : (s.accept i).isOpen = s.isOpen := rfl
@[simp] theorem accept_busy (i : Instr) : (s.accept i).busy = true := rfl
@[simp] theorem accept_cur (i : Instr) : (s.accept i).cur = ⟨i.cmd.code, trunc s.cfg.geom.aw i.addr, trunc s.cfg.geom.ps i.data⟩ := rfl
@[simp] theorem accept_seq (i : Instr) : (s.accept i).seq = 0 := rfl
@[simp] theorem accept_tx (i : Instr) : (s.accept i).tx = s.tx := rfl
@[simp] theorem accept_rx (i : Instr) : (s.accept i).rx = s.rx := rfl
@[simp] theorem accept_bi (i : Instr) : (s.accept i).bi = s.bi := rfl
@[simp] theorem accept_tmr (i : Instr) : (s.accept i).tmr = s.tmr := rfl
@[simp] theorem accept_rdata (i : Instr) : (s.accept i).rdata = s.rdata := rfl
@[simp] theorem accept_rraw (i : Instr) : (s.accept i).rraw = s.rraw := rfl
@[simp] theorem accept_rspValid (i : Instr) : (s.accept i).rspValid = false := rfl
@[simp] theorem accept_host (i : Instr) : (s.accept i).host = s.host := rfl
@[simp] theorem accept_di (i : Instr) : (s.accept i).di = s.di := rfl
@[simp] theorem accept_samples (i : Instr) : (s.accept i).samples = s.samples := rfl
@[simp] theorem accept_events (i : Instr) : (s.accept i).events = s.events := rfl
@[simp] theorem accept_now (i : Instr) : (s.accept i).now = s.now := rfl
@[simp] theorem accept_trace (i : Instr) : (s.accept i).trace = s.trace := rfl

/-! ### applyReset -/

@[simp] theorem applyReset_cfg : (s.applyReset).cfg = s.cfg := rfl
@[simp] theorem applyReset_dir : (s.applyReset).dir = Dirs.released := rfl
@[simp] theorem applyReset_lvl : (s.applyReset).lvl = Levels.low := rfl
@[simp] theorem applyReset_isOpen : (s.applyReset).isOpen = false := rfl
@[simp] theorem applyReset_busy : (s.applyReset).busy = false := rfl
@[simp] theorem applyReset_cur : (s.applyReset).cur = ⟨0#3, 0, 0⟩ := rfl
@[simp] theorem applyReset_seq : (s.applyReset).seq = 0 := rfl
@[simp] theorem applyReset_tx : (s.applyReset).tx = 0 := rfl
@[simp] theorem applyReset_rx : (s.applyReset).rx = 0 := rfl
@[simp] theorem applyReset_bi : (s.applyReset).bi = 0 := rfl
@[simp] theorem applyReset_tmr : (s.applyReset).tmr = 0 := rfl
@[simp] theorem applyReset_rdata : (s.applyReset).rdata = 0 := rfl
@[simp] theorem applyReset_rraw : (s.applyReset).rraw = 0 := rfl
@[simp] theorem applyReset_rspValid : (s.applyReset).rspValid = false := rfl
@[simp] theorem applyReset_host : (s.applyReset).host = s.host := rfl
@[simp] theorem applyReset_di : (s.applyReset).di = s.di := rfl
@[simp] theorem applyReset_samples : (s.applyReset).samples = s.samples := rfl
@[simp] theorem applyReset_events : (s.applyReset).events = s.events := rfl
@[simp] theorem applyReset_now : (s.applyReset).now = s.now := rfl
@[simp] theorem applyReset_trace : (s.applyReset).trace = s.trace := rfl

/-! ### finishOpen -/

@[simp] theorem finishOpen_cfg : (s.finishOpen).cfg = s.cfg := rfl
@[simp] theorem finishOpen_dir : (s.finishOpen).dir = s.dir := rfl
@[simp] theorem finishOpen_lvl : (s.finishOpen).lvl = s.lvl := rfl
@[simp] theorem finishOpen_isOpen : (s.finishOpen).isOpen = true := rfl
@[simp] theorem finishOpen_busy : (s.finishOpen).busy = false := rfl
@[simp] theorem finishOpen_cur : (s.finishOpen).cur = s.cur := rfl
@[simp] theorem finishOpen_seq : (s.finishOpen).seq = s.seq := rfl
@[simp] theorem finishOpen_tx : (s.finishOpen).tx = s.tx := rfl
@[simp] theorem finishOpen_rx : (s.finishOpen).rx = s.rx := rfl
@[simp] theorem finishOpen_bi : (s.finishOpen).bi = s.bi := rfl
@[simp] theorem finishOpen_tmr : (s.finishOpen).tmr = s.tmr := rfl
@[simp] theorem finishOpen_rdata : (s.finishOpen).rdata = s.rdata := rfl
@[simp] theorem finishOpen_rraw : (s.finishOpen).rraw = s.rraw := rfl
@[simp] theorem finishOpen_rspValid : (s.finishOpen).rspValid = s.rspValid := rfl
@[simp] theorem finishOpen_host : (s.finishOpen).host = s.host := rfl
@[simp] theorem finishOpen_di : (s.finishOpen).di = s.di := rfl
@[simp] theorem finishOpen_samples : (s.finishOpen).samples = s.samples := rfl
@[simp] theorem finishOpen_events : (s.finishOpen).events = s.events := rfl
@[simp] theorem finishOpen_now : (s.finishOpen).now = s.now := rfl
@[simp] theorem finishOpen_trace : (s.finishOpen).trace = s.trace := rfl

/-! ### finishClose -/

@[simp] theorem finishClose_cfg : (s.finishClose).cfg = s.cfg := rfl
@[simp] theorem finishClose_dir : (s.finishClose).dir = s.dir := rfl
@[simp] theorem finishClose_lvl : (s.finishClose).lvl = s.lvl := rfl
@[simp] theorem finishClose_isOpen : (s.finishClose).isOpen = false := rfl
@[simp] theorem finishClose_busy : (s.finishClose).busy = false := rfl
@[simp] theorem finishClose_cur : (s.finishClose).cur = s.cur := rfl
@[simp] theorem finishClose_seq : (s.finishClose).seq = s.seq := rfl
@[simp] theorem finishClose_tx : (s.finishClose).tx = s.tx := rfl
@[simp] theorem finishClose_rx : (s.finishClose).rx = s.rx := rfl
@[simp] theorem finishClose_bi : (s.finishClose).bi = s.bi := rfl
@[simp] theorem finishClose_tmr : (s.finishClose).tmr = s.tmr := rfl
@[simp] theorem finishClose_rdata : (s.finishClose).rdata = s.rdata := rfl
@[simp] theorem finishClose_rraw : (s.finishClose).rraw = s.rraw := rfl
@[simp] theorem finishClose_rspValid : (s.finishClose).rspValid = s.rspValid := rfl
@[simp] theorem finishClose_host : (s.finishClose).host = s.host := rfl
@[simp] theorem finishClose_di : (s.finishClose).di = s.di := rfl
@[simp] theorem finishClose_samples : (s.finishClose).samples = s.samples := rfl
@[simp] theorem finishClose_events : (s.finishClose).events = s.events := rfl
@[simp] theorem finishClose_now : (s.finishClose).now = s.now := rfl
@[simp] theorem finishClose_trace : (s.finishClose).trace = s.trace := rfl

/-! ### finishRead -/

@[simp] theorem finishRead_cfg : (s.finishRead).cfg = s.cfg := rfl
@[simp] theorem finishRead_dir : (s.finishRead).dir = s.dir := rfl
@[simp] theorem finishRead_lvl : (s.finishRead).lvl = s.lvl := rfl
@[simp] theorem finishRead_isOpen : (s.finishRead).isOpen = s.isOpen := rfl
@[simp] theorem finishRead_busy : (s.finishRead).busy = false := rfl
@[simp] theorem finishRead_cur : (s.finishRead).cur = s.cur := rfl
@[simp] theorem finishRead_seq : (s.finishRead).seq = s.seq := rfl
@[simp] theorem finishRead_tx : (s.finishRead).tx = s.tx := rfl
@[simp] theorem finishRead_rx : (s.finishRead).rx = s.rx := rfl
@[simp] theorem finishRead_bi : (s.finishRead).bi = s.bi := rfl
@[simp] theorem finishRead_tmr : (s.finishRead).tmr = s.tmr := rfl
@[simp] theorem finishRead_rdata : (s.finishRead).rdata = trunc s.cfg.geom.ps s.rx := rfl
@[simp] theorem finishRead_rraw : (s.finishRead).rraw = trunc (s.cfg.geom.ps + 1) s.rx := rfl
@[simp] theorem finishRead_rspValid : (s.finishRead).rspValid = true := rfl
@[simp] theorem finishRead_host : (s.finishRead).host = s.host := rfl
@[simp] theorem finishRead_di : (s.finishRead).di = s.di := rfl
@[simp] theorem finishRead_samples : (s.finishRead).samples = s.samples := rfl
@[simp] theorem finishRead_events : (s.finishRead).events = s.events := rfl
@[simp] theorem finishRead_now : (s.finishRead).now = s.now := rfl
@[simp] theorem finishRead_trace : (s.finishRead).trace = s.trace := rfl

/-! ### finishPlain -/

@[simp] theorem finishPlain_cfg : (s.finishPlain).cfg = s.cfg := rfl
@[simp] theorem finishPlain_dir : (s.finishPlain).dir = s.dir := rfl
@[simp] theorem finishPlain_lvl : (s.finishPlain).lvl = s.lvl := rfl
@[simp] theorem finishPlain_isOpen : (s.finishPlain).isOpen = s.isOpen := rfl
@[simp] theorem finishPlain_busy : (s.finishPlain).busy = false := rfl
@[simp] theorem finishPlain_cur : (s.finishPlain).cur = s.cur := rfl
@[simp] theorem finishPlain_seq : (s.finishPlain).seq = s.seq := rfl
@[simp] theorem finishPlain_tx : (s.finishPlain).tx = s.tx := rfl
@[simp] theorem finishPlain_rx : (s.finishPlain).rx = s.rx := rfl
@[simp] theorem finishPlain_bi : (s.finishPlain).bi = s.bi := rfl
@[simp] theorem finishPlain_tmr : (s.finishPlain).tmr = s.tmr := rfl
@[simp] theorem finishPlain_rdata : (s.finishPlain).rdata = s.rdata := rfl
@[simp] theorem finishPlain_rraw : (s.finishPlain).rraw = s.rraw := rfl
@[simp] theorem finishPlain_rspValid : (s.finishPlain).rspValid = s.rspValid := rfl
@[simp] theorem finishPlain_host : (s.finishPlain).host = s.host := rfl
@[simp] theorem finishPlain_di : (s.finishPlain).di = s.di := rfl
@[simp] theorem finishPlain_samples : (s.finishPlain).samples = s.samples := rfl
@[simp] theorem finishPlain_events : (s.finishPlain).events = s.events := rfl
@[simp] theorem finishPlain_now : (s.finishPlain).now = s.now := rfl
@[simp] theorem finishPlain_trace : (s.finishPlain).trace = s.trace := rfl

/-! ### idleStep -/

@[simp] theorem idleStep_cfg : (s.idleStep).cfg = s.cfg := rfl
@[simp] theorem idleStep_dir : (s.idleStep).dir = s.dir := rfl
@[simp] theorem idleStep_lvl : (s.idleStep).lvl = s.lvl := rfl
@[simp] theorem idleStep_isOpen : (s.idleStep).isOpen = s.isOpen := rfl
@[simp] theorem idleStep_busy : (s.idleStep).busy = s.busy := rfl
@[simp] theorem idleStep_cur : (s.idleStep).cur = s.cur := rfl
@[simp] theorem idleStep_seq : (s.idleStep).seq = s.seq := rfl
@[simp] theorem idleStep_tx : (s.idleStep).tx = s.tx := rfl
@[simp] theorem idleStep_rx : (s.idleStep).rx = s.rx := rfl
@[simp] theorem idleStep_bi : (s.idleStep).bi = s.bi := rfl
@[simp] theorem idleStep_tmr : (s.idleStep).tmr = s.tmr := rfl
@[simp] theorem idleStep_rdata : (s.idleStep).rdata = s.rdata := rfl
@[simp] theorem idleStep_rraw : (s.idleStep).rraw = s.rraw := rfl
@[simp] theorem idleStep_rspValid : (s.idleStep).rspValid = false := rfl
@[simp] theorem idleStep_host : (s.idleStep).host = s.host := rfl
@[simp] theorem idleStep_di : (s.idleStep).di = s.di := rfl
@[simp] theorem idleStep_samples : (s.idleStep).samples = s.samples := rfl
@[simp] theorem idleStep_events : (s.idleStep).events = s.events := rfl
@[simp] theorem idleStep_now : (s.idleStep).now = s.now := rfl
@[simp] theorem idleStep_trace : (s.idleStep).trace = s.trace := rfl

/-! ### dropMove -/

@[simp] theorem dropMove_cfg : (s.dropMove).cfg = s.cfg := rfl
@[simp] theorem dropMove_dir : (s.dropMove).dir = s.dir := rfl
@[simp] theorem dropMove_lvl : (s.dropMove).lvl = s.lvl := rfl
@[simp] theorem dropMove_isOpen : (s.dropMove).isOpen = s.isOpen := rfl
@[simp] theorem dropMove_busy : (s.dropMove).busy = s.busy := rfl
@[simp] theorem dropMove_cur : (s.dropMove).cur = s.cur := rfl
@[simp] theorem dropMove_seq : (s.dropMove).seq = s.seq := rfl
@[simp] theorem dropMove_tx : (s.dropMove).tx = s.tx := rfl
@[simp] theorem dropMove_rx : (s.dropMove).rx = s.rx := rfl
@[simp] theorem dropMove_bi : (s.dropMove).bi = s.bi := rfl
@[simp] theorem dropMove_tmr : (s.dropMove).tmr = s.tmr := rfl
@[simp] theorem dropMove_rdata : (s.dropMove).rdata = s.rdata := rfl
@[simp] theorem dropMove_rraw : (s.dropMove).rraw = s.rraw := rfl
@[simp] theorem dropMove_rspValid : (s.dropMove).rspValid = s.rspValid := rfl
@[simp] theorem dropMove_host : (s.dropMove).host = s.host.tail := rfl
@[simp] theorem dropMove_di : (s.dropMove).di = s.di := rfl
@[simp] theorem dropMove_samples : (s.dropMove).samples = s.samples := rfl
@[simp] theorem dropMove_events : (s.dropMove).events = s.events := rfl
@[simp] theorem dropMove_now : (s.dropMove).now = s.now := rfl
@[simp] theorem dropMove_trace : (s.dropMove).trace = s.trace := rfl

end Sys2Proof.Machine
end

