-- ==== Sys2Proof/Laws/Decode.lean ====
section
/-! SUPPORT. The decoder's and encoder's small lemmas. -/

namespace Sys2Proof

@[simp] theorem Cmd.ofCode_code (c : Cmd) : Cmd.ofCode c.code = some c := by cases c <;> rfl

/-- A code that is a command's is that command's. -/
theorem Cmd.code_of_ofCode (op : BitVec 3) (c : Cmd) (h : Cmd.ofCode op = some c) : c.code = op := by
  revert h; revert c; revert op; decide

@[simp] theorem Cmd.instr_cmd (c : Cmd) (a d : Word) : (c.instr a d).cmd = c := by cases c <;> rfl
@[simp] theorem Cmd.instr_addr (c : Cmd) (a d : Word) : (c.instr a d).addr = a := by cases c <;> rfl
@[simp] theorem Cmd.instr_data (c : Cmd) (a d : Word) : (c.instr a d).data = d := by cases c <;> rfl

/-- A command word is its command and its two fields. -/
@[simp] theorem Instr.cmd_instr (i : Instr) : i.cmd.instr i.addr i.data = i := by cases i <;> rfl

/-- The low bits fit. -/
theorem trunc_lt (n : Nat) (v : Word) : trunc n v < 2 ^ n := Nat.mod_lt _ (Nat.two_pow_pos n)

@[simp] theorem trunc_trunc (n : Nat) (v : Word) : trunc n (trunc n v) = trunc n v := Nat.mod_mod _ _

theorem trunc_of_lt (n : Nat) (v : Word) (h : v < 2 ^ n) : trunc n v = v := Nat.mod_eq_of_lt h

/-- Cutting a value keeps its low bits. -/
theorem testBit_trunc (n : Nat) (v : Word) (j : Nat) (h : j < n) : (trunc n v).testBit j = v.testBit j := by
  simp [trunc, Nat.testBit_mod_two_pow, h]

end Sys2Proof
end

