-- ==== Sys2Proof/Laws/Ops.lean ====
section
/-! SUPPORT. What the shared operations do, said once: one micro-operation, a list of them, one bit cell. -/

namespace Sys2Proof.Machine

/-! ### Lines -/

@[simp] theorem Levels.get_put_self (v : Levels) (l : OutLine) (x : Bool) : (v.put l x).get l = x := by
  cases l <;> rfl

theorem Levels.get_put_of_ne (v : Levels) (l k : OutLine) (x : Bool) (h : k ≠ l) : (v.put l x).get k = v.get k := by
  cases l <;> cases k <;> first | rfl | exact absurd rfl h

@[simp] theorem Dirs.get_put_self (d : Dirs) (l : Line) (x : Dir) : (d.put l x).get l = x := by
  cases l <;> rfl

theorem Dirs.get_put_of_ne (d : Dirs) (l k : Line) (x : Dir) (h : k ≠ l) : (d.put l x).get k = d.get k := by
  cases l <;> cases k <;> first | rfl | exact absurd rfl h

/-! ### Pins -/

theorem mem_pins_iff (p : Pins) (n : Nat) : n ∈ p.toList ↔ ∃ l, pinOf p l = n := by
  constructor
  · intro h
    simp only [Pins.toList, List.mem_cons, List.not_mem_nil, or_false] at h
    rcases h with h | h | h | h | h
    exacts [⟨.cs, h.symm⟩, ⟨.clk, h.symm⟩, ⟨.di, h.symm⟩, ⟨.dout, h.symm⟩, ⟨.pe, h.symm⟩]
  · rintro ⟨l, rfl⟩
    cases l <;> simp [Pins.toList, pinOf]

/-- On distinct pins a pin tells its role (R130 step 2). -/
theorem pinOf_inj (p : Pins) (h : p.distinct) (k l : Line) (e : pinOf p k = pinOf p l) : k = l := by
  simp only [Pins.distinct, Pins.toList, List.nodup_cons, List.mem_cons, not_or, List.not_mem_nil] at h
  cases k <;> cases l <;> simp_all [pinOf]

/-- A role drives a pin when it is bound to it and its line is driven. -/
theorem mem_driversAt (s : State) (n : Nat) (l : Line) :
    l ∈ s.driversAt n ↔ pinOf s.cfg.pins l = n ∧ s.line l ≠ .z := by
  cases l <;> simp [State.driversAt]

/-! ### The wait timer -/

/-- One microsecond of the wait timer's count (R32). -/
def State.tick (s : State) : State := { s with tmr := s.tmr - 1, now := s.now + 1 }

/-- Running the timer is counting it down to 0, one microsecond at a time (R32). -/
theorem runTimer_eq_ticks (s : State) : s.runTimer = (State.tick^[s.tmr]) s := by
  generalize h : s.tmr = n
  induction n generalizing s with
  | zero => cases s; simp_all [State.runTimer]
  | succ n ih =>
    rw [Function.iterate_succ_apply, ← ih s.tick (by simp [State.tick, h])]
    simp only [State.runTimer, State.tick, h]
    congr 1
    push_cast
    ring

/-! ### One micro-operation -/

section micro
variable (s : State) (m : Micro)

@[simp] theorem micro_cfg : (s.micro m).cfg = s.cfg := by cases m <;> rfl
@[simp] theorem micro_isOpen : (s.micro m).isOpen = s.isOpen := by cases m <;> rfl
@[simp] theorem micro_busy : (s.micro m).busy = s.busy := by cases m <;> rfl
@[simp] theorem micro_cur : (s.micro m).cur = s.cur := by cases m <;> rfl
@[simp] theorem micro_seq : (s.micro m).seq = s.seq + 1 := by cases m <;> rfl
@[simp] theorem micro_rdata : (s.micro m).rdata = s.rdata := by cases m <;> rfl
@[simp] theorem micro_rraw : (s.micro m).rraw = s.rraw := by cases m <;> rfl
@[simp] theorem micro_rspValid : (s.micro m).rspValid = s.rspValid := by cases m <;> rfl
@[simp] theorem micro_host : (s.micro m).host = s.host := by cases m <;> rfl
@[simp] theorem micro_events : (s.micro m).events = s.events + 1 := by cases m <;> rfl

/-- The event a micro-operation performs: a drive's level comes from the datapath (R84 step 2). -/
def Micro.event : Micro → Event
  | .dir l d => .dir l d
  | .set l v => .set l v
  | .wait t => .wait t
  | .firstSample _ _ => .sample
  | .nextSample => .sample
  | .drive => .set .dout (s.tx.testBit s.bi)
  | .emptyTransfer _ => .set .dout false

/-- The level a micro-operation samples, if it samples. -/
def Micro.level : Micro → Option Bool
  | .dir _ _ => none
  | .set _ _ => none
  | .wait _ => none
  | .firstSample _ _ => some (s.diAt 0)
  | .nextSample => some (s.diAt 0)
  | .drive => none
  | .emptyTransfer _ => none

/-- A micro-operation puts exactly one entry on the trace, after a gap. -/
theorem micro_trace : (s.micro m).trace = s.trace ++ [⟨s.now + Config.gap s.events, m.event s, m.level s⟩] := by
  cases m <;> rfl

/-- A micro-operation takes its gap and, if it is a WAIT, its wait. -/
theorem micro_now : (s.micro m).now = s.now + Config.gap s.events + ((m.event s).duration : Rat) := by
  cases m <;> simp [State.micro, State.perform, State.doDir, State.doSet, State.doWait, State.doSample, Micro.event,
    Event.duration]

/-- The latches follow the event. -/
theorem micro_lvl : (s.micro m).lvl = s.lvl.after (m.event s) := by
  cases m <;> rfl

end micro

/-! ### What each micro-operation does to the lines, the datapath, the timer and the device's input -/

section fields
variable (s : State)

@[simp] theorem micro_dir_dir (l : Line) (d : Dir) : (s.micro (.dir l d)).dir = s.dir.put l d := rfl
@[simp] theorem micro_dir_lvl (l : Line) (d : Dir) : (s.micro (.dir l d)).lvl = s.lvl := rfl
@[simp] theorem micro_dir_tx (l : Line) (d : Dir) : (s.micro (.dir l d)).tx = s.tx := rfl
@[simp] theorem micro_dir_rx (l : Line) (d : Dir) : (s.micro (.dir l d)).rx = s.rx := rfl
@[simp] theorem micro_dir_bi (l : Line) (d : Dir) : (s.micro (.dir l d)).bi = s.bi := rfl
@[simp] theorem micro_dir_tmr (l : Line) (d : Dir) : (s.micro (.dir l d)).tmr = s.tmr := rfl
@[simp] theorem micro_dir_di (l : Line) (d : Dir) : (s.micro (.dir l d)).di = s.di := rfl
@[simp] theorem micro_dir_samples (l : Line) (d : Dir) : (s.micro (.dir l d)).samples = s.samples := rfl

@[simp] theorem micro_set_dir (l : OutLine) (v : Bool) : (s.micro (.set l v)).dir = s.dir := rfl
@[simp] theorem micro_set_lvl (l : OutLine) (v : Bool) : (s.micro (.set l v)).lvl = s.lvl.put l v := rfl
@[simp] theorem micro_set_tx (l : OutLine) (v : Bool) : (s.micro (.set l v)).tx = s.tx := rfl
@[simp] theorem micro_set_rx (l : OutLine) (v : Bool) : (s.micro (.set l v)).rx = s.rx := rfl
@[simp] theorem micro_set_bi (l : OutLine) (v : Bool) : (s.micro (.set l v)).bi = s.bi := rfl
@[simp] theorem micro_set_tmr (l : OutLine) (v : Bool) : (s.micro (.set l v)).tmr = s.tmr := rfl
@[simp] theorem micro_set_di (l : OutLine) (v : Bool) : (s.micro (.set l v)).di = s.di := rfl
@[simp] theorem micro_set_samples (l : OutLine) (v : Bool) : (s.micro (.set l v)).samples = s.samples := rfl

@[simp] theorem micro_wait_dir (t : Nat) : (s.micro (.wait t)).dir = s.dir := rfl
@[simp] theorem micro_wait_lvl (t : Nat) : (s.micro (.wait t)).lvl = s.lvl := rfl
@[simp] theorem micro_wait_tx (t : Nat) : (s.micro (.wait t)).tx = s.tx := rfl
@[simp] theorem micro_wait_rx (t : Nat) : (s.micro (.wait t)).rx = s.rx := rfl
@[simp] theorem micro_wait_bi (t : Nat) : (s.micro (.wait t)).bi = s.bi := rfl
@[simp] theorem micro_wait_tmr (t : Nat) : (s.micro (.wait t)).tmr = 0 := rfl
@[simp] theorem micro_wait_di (t : Nat) : (s.micro (.wait t)).di = s.di := rfl
@[simp] theorem micro_wait_samples (t : Nat) : (s.micro (.wait t)).samples = s.samples := rfl

@[simp] theorem micro_firstSample_dir (v : Word) (n : Nat) : (s.micro (.firstSample v n)).dir = s.dir := rfl
@[simp] theorem micro_firstSample_lvl (v : Word) (n : Nat) : (s.micro (.firstSample v n)).lvl = s.lvl := rfl
@[simp] theorem micro_firstSample_tx (v : Word) (n : Nat) : (s.micro (.firstSample v n)).tx = trunc s.cfg.geom.wmax v := rfl
@[simp] theorem micro_firstSample_rx (v : Word) (n : Nat) : (s.micro (.firstSample v n)).rx = trunc s.cfg.geom.wmax (0 ||| ((s.diAt 0).toNat <<< trunc s.cfg.geom.biWidth (n - 1))) := rfl
@[simp] theorem micro_firstSample_bi (v : Word) (n : Nat) : (s.micro (.firstSample v n)).bi = trunc s.cfg.geom.biWidth (n - 1) := rfl
@[simp] theorem micro_firstSample_tmr (v : Word) (n : Nat) : (s.micro (.firstSample v n)).tmr = s.tmr := rfl
@[simp] theorem micro_firstSample_di (v : Word) (n : Nat) : (s.micro (.firstSample v n)).di = s.di.tail := rfl
@[simp] theorem micro_firstSample_samples (v : Word) (n : Nat) : (s.micro (.firstSample v n)).samples = s.samples + 1 := rfl

@[simp] theorem micro_nextSample_dir : (s.micro .nextSample).dir = s.dir := rfl
@[simp] theorem micro_nextSample_lvl : (s.micro .nextSample).lvl = s.lvl := rfl
@[simp] theorem micro_nextSample_tx : (s.micro .nextSample).tx = s.tx := rfl
@[simp] theorem micro_nextSample_rx : (s.micro .nextSample).rx = trunc s.cfg.geom.wmax (s.rx ||| ((s.diAt 0).toNat <<< (s.bi - 1))) := rfl
@[simp] theorem micro_nextSample_bi : (s.micro .nextSample).bi = s.bi - 1 := rfl
@[simp] theorem micro_nextSample_tmr : (s.micro .nextSample).tmr = s.tmr := rfl
@[simp] theorem micro_nextSample_di : (s.micro .nextSample).di = s.di.tail := rfl
@[simp] theorem micro_nextSample_samples : (s.micro .nextSample).samples = s.samples + 1 := rfl

@[simp] theorem micro_drive_dir : (s.micro .drive).dir = s.dir := rfl
@[simp] theorem micro_drive_lvl : (s.micro .drive).lvl = s.lvl.put .dout (s.tx.testBit s.bi) := rfl
@[simp] theorem micro_drive_tx : (s.micro .drive).tx = s.tx := rfl
@[simp] theorem micro_drive_rx : (s.micro .drive).rx = s.rx := rfl
@[simp] theorem micro_drive_bi : (s.micro .drive).bi = s.bi := rfl
@[simp] theorem micro_drive_tmr : (s.micro .drive).tmr = s.tmr := rfl
@[simp] theorem micro_drive_di : (s.micro .drive).di = s.di := rfl
@[simp] theorem micro_drive_samples : (s.micro .drive).samples = s.samples := rfl

@[simp] theorem micro_emptyTransfer_dir (v : Word) : (s.micro (.emptyTransfer v)).dir = s.dir := rfl
@[simp] theorem micro_emptyTransfer_lvl (v : Word) : (s.micro (.emptyTransfer v)).lvl = s.lvl.put .dout false := rfl
@[simp] theorem micro_emptyTransfer_tx (v : Word) : (s.micro (.emptyTransfer v)).tx = trunc s.cfg.geom.wmax v := rfl
@[simp] theorem micro_emptyTransfer_rx (v : Word) : (s.micro (.emptyTransfer v)).rx = 0 := rfl
@[simp] theorem micro_emptyTransfer_bi (v : Word) : (s.micro (.emptyTransfer v)).bi = trunc s.cfg.geom.biWidth (0 - 1) := rfl
@[simp] theorem micro_emptyTransfer_tmr (v : Word) : (s.micro (.emptyTransfer v)).tmr = s.tmr := rfl
@[simp] theorem micro_emptyTransfer_di (v : Word) : (s.micro (.emptyTransfer v)).di = s.di := rfl
@[simp] theorem micro_emptyTransfer_samples (v : Word) : (s.micro (.emptyTransfer v)).samples = s.samples := rfl

end fields

theorem gap_nonneg (n : Nat) : 0 ≤ Config.gap n := le_max_left _ _

/-! ### A list of micro-operations -/

section runMicros
variable (s : State) (ms ns : List Micro) (m : Micro)

@[simp] theorem runMicros_nil : s.runMicros [] = s := rfl
theorem runMicros_cons : s.runMicros (m :: ms) = (s.micro m).runMicros ms := rfl
theorem runMicros_append : s.runMicros (ms ++ ns) = (s.runMicros ms).runMicros ns := List.foldl_append

@[simp] theorem runMicros_cfg : (s.runMicros ms).cfg = s.cfg := by
  induction ms generalizing s <;> simp_all [runMicros_cons]
@[simp] theorem runMicros_isOpen : (s.runMicros ms).isOpen = s.isOpen := by
  induction ms generalizing s <;> simp_all [runMicros_cons]
@[simp] theorem runMicros_busy : (s.runMicros ms).busy = s.busy := by
  induction ms generalizing s <;> simp_all [runMicros_cons]
@[simp] theorem runMicros_cur : (s.runMicros ms).cur = s.cur := by
  induction ms generalizing s <;> simp_all [runMicros_cons]
@[simp] theorem runMicros_rdata : (s.runMicros ms).rdata = s.rdata := by
  induction ms generalizing s <;> simp_all [runMicros_cons]
@[simp] theorem runMicros_rraw : (s.runMicros ms).rraw = s.rraw := by
  induction ms generalizing s <;> simp_all [runMicros_cons]
@[simp] theorem runMicros_rspValid : (s.runMicros ms).rspValid = s.rspValid := by
  induction ms generalizing s <;> simp_all [runMicros_cons]
@[simp] theorem runMicros_host : (s.runMicros ms).host = s.host := by
  induction ms generalizing s <;> simp_all [runMicros_cons]
@[simp] theorem runMicros_seq : (s.runMicros ms).seq = s.seq + ms.length := by
  induction ms generalizing s <;> simp_all [runMicros_cons]; omega
@[simp] theorem runMicros_events : (s.runMicros ms).events = s.events + ms.length := by
  induction ms generalizing s <;> simp_all [runMicros_cons]; omega

end runMicros

/-! ### One host step of an idle engine -/

section hostStep
variable (s t : State) (i : Instr)

theorem whenOpen_next (run : State → State) (hb : s.busy = false) (h : s.whenOpen run = .next t) :
    s.isOpen = true ∧ t = run s := by
  simp only [State.whenOpen, hb] at h
  cases ho : s.isOpen <;> simp_all

theorem whenClosed_next (run : State → State) (hb : s.busy = false) (h : s.whenClosed run = .next t) :
    s.isOpen = false ∧ t = run s := by
  simp only [State.whenClosed, hb] at h
  cases ho : s.isOpen <;> simp_all

/-- What a command leaves of the fields that no event writes: it is permitted, the engine is idle again, `open` is set by
OPEN, cleared by CLOSE and kept by the others, and the parameters and the host's list are kept. -/
theorem exec_next (hb : s.busy = false) (h : exec i s = .next t) :
    Permitted s i ∧ t.busy = false ∧ t.isOpen = decide (i.cmd ≠ .closeCmd) ∧ t.cfg = s.cfg ∧ t.host = s.host := by
  cases i with
  | openCmd a d =>
    simp only [exec, execOpen] at h
    obtain ⟨ho, rfl⟩ := whenClosed_next s t _ hb h
    simp [Permitted, hb, ho, Instr.cmd]
  | closeCmd a d =>
    simp only [exec, execClose] at h
    obtain ⟨ho, rfl⟩ := whenOpen_next s t _ hb h
    simp [Permitted, hb, ho, Instr.cmd]
  | read a d =>
    simp only [exec, execRead] at h
    obtain ⟨ho, rfl⟩ := whenOpen_next s t _ hb h
    simp [Permitted, hb, ho, Instr.cmd]
  | write a d =>
    simp only [exec, execWrite] at h
    obtain ⟨ho, rfl⟩ := whenOpen_next s t _ hb h
    simp [Permitted, hb, ho, Instr.cmd]
  | ewen a d =>
    simp only [exec, execEwen] at h
    obtain ⟨ho, rfl⟩ := whenOpen_next s t _ hb h
    simp [Permitted, hb, ho, Instr.cmd]
  | ewds a d =>
    simp only [exec, execEwds] at h
    obtain ⟨ho, rfl⟩ := whenOpen_next s t _ hb h
    simp [Permitted, hb, ho, Instr.cmd]

/-- What one host move does to the lifetime (R81, R83), and that it is used up. -/
theorem step_lifetime (m : HostMove) (rest : List HostMove) (hb : s.busy = false) (hh : s.host = m :: rest)
    (h : step s = .next t) :
    t.isOpen = lifetimeAfter s.cfg.geom s.isOpen m ∧ t.busy = false ∧ t.cfg = s.cfg ∧ t.host = rest := by
  simp only [step, hb, State.hostStep, hh, Bool.false_eq_true, if_false] at h
  cases m with
  | idle => cases h; simp [lifetimeAfter, hb, hh]
  | reset => cases h; simp [lifetimeAfter, hh]
  | command w =>
    simp only [State.present, dropMove_cfg] at h
    split at h
    · rename_i i hd
      obtain ⟨⟨-, hp⟩, hb', ho', hc, hr⟩ := exec_next s.dropMove t i (by simpa using hb) h
      simp only [dropMove_isOpen, dropMove_cfg, dropMove_host, hh] at hp hc hr
      refine ⟨?_, hb', hc, hr⟩
      rw [ho']
      cases i <;> simp_all [lifetimeAfter, Instr.cmd]
    · cases h
  | interrupted w k =>
    simp only [State.presentInterrupted, dropMove_cfg] at h
    split at h
    · split at h <;> cases h
      simp [lifetimeAfter, State.cutShort, hh]
    · cases h

end hostStep

/-! ### DI -/

/-- After a SAMPLE the device's levels count from the next one. -/
theorem diAt_consumeDi (s : State) (j : Nat) : s.consumeDi.diAt j = s.diAt (j + 1) := by
  unfold State.diAt State.consumeDi
  cases s.di <;> simp [Nat.add_assoc, Nat.add_comm 1 j]

/-! ### One bit cell -/

section cell
variable (s : State) (p : Params)

/-! Steps 2 to 4 of a bit cell (R84): the bit is on DO, CLK is low again, the timer has run out, all else stands. -/

@[simp] theorem cellTail_dir : (s.runMicros (cellTail p)).dir = s.dir := by simp [cellTail, runMicros_cons]
@[simp] theorem cellTail_lvl :
    (s.runMicros (cellTail p)).lvl = ⟨s.lvl.cs, false, s.tx.testBit s.bi, s.lvl.pe⟩ := by
  simp [cellTail, runMicros_cons, Levels.put]
@[simp] theorem cellTail_tx : (s.runMicros (cellTail p)).tx = s.tx := by simp [cellTail, runMicros_cons]
@[simp] theorem cellTail_rx : (s.runMicros (cellTail p)).rx = s.rx := by simp [cellTail, runMicros_cons]
@[simp] theorem cellTail_bi : (s.runMicros (cellTail p)).bi = s.bi := by simp [cellTail, runMicros_cons]
@[simp] theorem cellTail_tmr : (s.runMicros (cellTail p)).tmr = 0 := by simp [cellTail, runMicros_cons]
@[simp] theorem cellTail_di : (s.runMicros (cellTail p)).di = s.di := by simp [cellTail, runMicros_cons]
@[simp] theorem cellTail_samples : (s.runMicros (cellTail p)).samples = s.samples := by
  simp [cellTail, runMicros_cons]
@[simp] theorem cellTail_length : (cellTail p).length = 5 := rfl

/-- The events of steps 2 to 4 of a bit cell (R86). -/
theorem cellTail_eventTrace : (s.runMicros (cellTail p)).eventTrace =
    s.eventTrace ++ [.set .dout (s.tx.testBit s.bi), .wait p.tHalf, .set .clk true, .wait p.tHalf, .set .clk false] := by
  simp [State.eventTrace, cellTail, runMicros_cons, micro_trace, Micro.event]

end cell

end Sys2Proof.Machine
end

