-- ==== Sys2Proof/Laws/PerInstr.lean ====
section
/-! SUPPORT. Facts about every command word, one lemma a constructor. -/

/-- The low three bits of an encoded command are its command code (R63, R64). -/
def Sys2Proof.Laws.OpField.Statement (i : Sys2Proof.Instr) : Prop :=
  ∀ g : Sys2Proof.Geometry, Sys2Proof.encode g i % 8 = i.cmd.code.toNat

namespace Sys2Proof.Laws.OpField

/-- What lies above the code's three bits does not reach them. -/
theorem low_bits (g : Geometry) (x y op : Nat) (h : op < 8) :
    ((x <<< (3 + g.aw)) ||| (y <<< 3) ||| op) % 8 = op := by
  have hx : (x <<< (3 + g.aw)) ||| (y <<< 3) = ((x <<< g.aw) ||| y) <<< 3 := by
    rw [Nat.add_comm 3, Nat.shiftLeft_add, ← Nat.shiftLeft_or_distrib]
  rw [hx, ← Nat.shiftLeft_add_eq_or_of_lt (show op < 2 ^ 3 by omega), Nat.shiftLeft_eq]
  omega

theorem openCmd (a d : Word) : Statement (.openCmd a d) := fun g => low_bits g _ _ _ (BitVec.isLt _)
theorem closeCmd (a d : Word) : Statement (.closeCmd a d) := fun g => low_bits g _ _ _ (BitVec.isLt _)
theorem read (a d : Word) : Statement (.read a d) := fun g => low_bits g _ _ _ (BitVec.isLt _)
theorem write (a d : Word) : Statement (.write a d) := fun g => low_bits g _ _ _ (BitVec.isLt _)
theorem ewen (a d : Word) : Statement (.ewen a d) := fun g => low_bits g _ _ _ (BitVec.isLt _)
theorem ewds (a d : Word) : Statement (.ewds a d) := fun g => low_bits g _ _ _ (BitVec.isLt _)

end Sys2Proof.Laws.OpField
end

