-- ==== Sys2Proof/Tests/Slice0.lean ====
section
/-! SUPPORT. Tests on the spec's own vectors (spec/95_test_vectors.md), and a witness for the hypotheses of each
statement. -/

set_option maxRecDepth 100000

namespace Sys2Proof.Tests

open Sys2Proof.Machine

/-! ### Helpers -/

/-- An engine's parameters with T_HALF = 2, T_PRE1 = 3, T_PRE2 = 5 (as TM6), WRITE_UNIT = 1. -/
def pars (ps aw : Nat) : Params := ⟨⟨ps, aw⟩, 2, 3, 5, 250, 1, 0, ⟨0, 1, 2, 3, 4⟩⟩

/-- The reset state of an engine with a geometry. -/
def closed (ps aw : Nat) : State := { State.reset with cfg := pars ps aw }

/-- An idle-open engine (R37) and the levels the device will show on DI. -/
def opened (ps aw : Nat) (di : List Bool) : State :=
  { closed ps aw with dir := Dirs.claimed, isOpen := true, di := di }

/-- The same, with the host's coming moves. -/
def hosted (s : State) (moves : List HostMove) : State := { s with host := moves }

/-- The next state of an outcome; the reset state where there is none. -/
def after : Result → State
  | .next s => s
  | .fault _ => State.reset
  | .refused _ => State.reset

def isNext : Result → Bool
  | .next _ => true
  | .fault _ => false
  | .refused _ => false

def refusal : Result → Option Refusal
  | .next _ => none
  | .fault _ => none
  | .refused r => some r

/-- `n` levels of 0. -/
def low (n : Nat) : List Bool := List.replicate n false

/-! ### Well-formedness refuses each ill-formed term (R8, R63, R72) -/

theorem test_wellFormed_accepts : (Instr.write 63 0xFFFF).WellFormed Geometry.standard := by decide
theorem test_wellFormed_addr_too_wide : ¬ (Instr.read 64 0).WellFormed Geometry.standard := by decide
theorem test_wellFormed_data_too_wide : ¬ (Instr.write 0 0x10000).WellFormed Geometry.standard := by decide
theorem test_params_accepts : (pars 16 6).WellFormed := by decide
theorem test_params_no_page : ¬ (pars 0 6).WellFormed := by decide
theorem test_params_no_address : ¬ (pars 16 0).WellFormed := by decide
theorem test_params_count : ¬ ({ pars 16 6 with tWriteCount := 249 } : Params).WellFormed := by decide
theorem test_params_unit : ¬ ({ pars 16 6 with writeUnit := 10 } : Params).WellFormed := by decide
theorem test_configure_bad_geometry : refusal (configure (pars 0 6) []) = some .badGeometry := by decide
theorem test_configure_shared_lines : refusal (configure (pars 16 6) [⟨9, 8, 7, 6, 4⟩]) = some .sharedLines := by decide
/-- Ill-formed and on shared lines: the choice of log 21. -/
theorem test_configure_both : refusal (configure (pars 0 6) [⟨9, 8, 7, 6, 4⟩]) = some .badGeometry := by decide
theorem test_configure_disjoint : isNext (configure (pars 16 6) [⟨9, 8, 7, 6, 5⟩]) = true := by decide

/-! ### Decoding: words written bit by bit, `data` (16 bits), `addr` (6 bits), `op` (3 bits), from R63 and R64 -/

theorem test_decode_open : decodeTableWord 32 0b0000000000000000_000000_001 = some (.openCmd 0 0) := by decide
theorem test_decode_close : decodeTableWord 32 0b0000000000000000_000000_010 = some (.closeCmd 0 0) := by decide
theorem test_decode_read : decodeTableWord 32 0b0000000000000000_101010_100 = some (.read 42 0) := by decide
theorem test_decode_write : decodeTableWord 32 0b1010010110100101_000101_101 = some (.write 5 0xA5A5) := by decide
theorem test_decode_ewen : decodeTableWord 32 0b0000000000000000_000000_110 = some (.ewen 0 0) := by decide
theorem test_decode_ewds : decodeTableWord 32 0b0000000000000000_000000_111 = some (.ewds 0 0) := by decide
theorem test_decode_reserved_000 : decodeTableWord 8 0b000 = none := by decide
theorem test_decode_reserved_011 : decodeTableWord 8 0b011 = none := by decide
/-- 95_test_vectors.md 2.7: `WRITE 3, 0x1234`. -/
theorem test_encode_write : encode Geometry.standard (.write 3 0x1234) = 0x024681D := by decide

/-! ### The assembler and the wire strings (R72, R74) -/

/-- `WRITE 5, 0xA5A5 ; page` assembles to 0x14B4A2D (R72). -/
theorem test_assemble_write : assembleLine Geometry.standard
    ['W', 'R', 'I', 'T', 'E', ' ', '5', ',', ' ', '0', 'x', 'A', '5', 'A', '5', ' ', ';', ' ', 'p'] =
    .word 0x14B4A2D := by decide
theorem test_assemble_refuses_addr : assembleLine Geometry.standard ['R', 'E', 'A', 'D', ' ', '6', '4'] = .refused := by
  decide
/-- `EWEN` is `P 1 00 111111` (95_test_vectors.md EN1). -/
theorem test_wireString_ewen : wireString (pars 16 6) (wireFrame (pars 16 6) (.ewen 0 0)) =
    ['P', ' ', '1', ' ', '0', '0', ' ', '1', '1', '1', '1', '1', '1'] := by decide

/-! ### Transfer (95_test_vectors.md T1, T4, T7) -/

/-- T4: DI 0, 1, 1, 0, 1, 0 gives 0b011010. -/
theorem test_transfer_T4 : ((opened 16 6 [false, true, true, false, true, false]).runMicros
    (transfer (pars 16 6) 0b100101 6)).rx = 0b011010 := by decide
/-- T1: DO is written 1, 0, 1, 0. -/
theorem test_transfer_T1 : ((opened 16 6 (low 3)).runMicros (transfer (pars 16 6) 0b101 3)).eventTrace.filter
    (fun e => e == .set .dout true || e == .set .dout false) =
    [.set .dout true, .set .dout false, .set .dout true, .set .dout false] := by decide
/-- T7: no bits, a result of 0. -/
theorem test_transfer_T7 : (({ opened 16 6 [] with rx := 9 } : State).runMicros (transfer (pars 16 6) 0 0)).rx = 0 := by
  decide

/-! ### Lifecycle (95_test_vectors.md L1 to L7) -/

theorem test_open_L1 : (after (exec (.openCmd 0 0) (closed 16 6))).dir = ⟨.out, .out, .inn, .out, .out⟩ := by decide
theorem test_open_L5 : refusal (exec (.openCmd 0 0) (opened 16 6 [])) = some .alreadyOpen := by decide
theorem test_close_L2 : (after (exec (.closeCmd 0 0) (opened 16 6 []))).isOpen = false := by decide
theorem test_close_L4 : refusal (exec (.closeCmd 0 0) (closed 16 6)) = some .notOpen := by decide
theorem test_reserved_L7 : refusal (step (hosted (closed 16 6) [.command 0b011])) = some .reservedCommand := by decide

/-! ### READ (95_test_vectors.md RD1, RD4, and the trace of section 2.8) -/

/-- RD1: after nine other samples the device answers 0, then 0xBEEF. -/
theorem test_read_RD1 : (after (exec (.read 42 0) (opened 16 6 (low 10 ++ msbBits 16 0xBEEF)))).rdata = 0xBEEF := by
  decide
/-- RD4: a dummy bit of 1 shows in `rraw` only. -/
theorem test_read_RD4 : ((after (exec (.read 5 0) (opened 16 6 (low 9 ++ [true] ++ low 16)))).rraw,
    (after (exec (.read 5 0) (opened 16 6 (low 9 ++ [true] ++ low 16)))).rdata) = (0x10000, 0) := by decide
/-- Section 2.8: the events 38 to 58 of `READ 2` at PS = 2, AW = 2. -/
theorem test_read_trace : ((after (exec (.read 2 0) (opened 2 2 (low 8)))).eventTrace.drop 38) =
    [.set .dout false,
     .sample, .set .dout false, .wait 2, .set .clk true, .wait 2, .set .clk false,
     .sample, .set .dout false, .wait 2, .set .clk true, .wait 2, .set .clk false,
     .sample, .set .dout false, .wait 2, .set .clk true, .wait 2, .set .clk false,
     .set .dout false, .set .cs false] := by decide

/-! ### WRITE, EWEN, EWDS (95_test_vectors.md WR1, WR2, EN2, DS2) -/

/-- WR1: `P 1 01 000011 0001001000110100`. -/
theorem test_write_WR1 : frameBits Levels.low (after (exec (.write 3 0x1234) (opened 16 6 (low 25)))).eventTrace =
    [true, false, true, false, false, false, false, true, true,
     false, false, false, true, false, false, true, false, false, false, true, true, false, true, false, false] := by
  decide
/-- In every WRITE event 161 is the write wait, right after `SET(CS,0)`. -/
theorem test_write_wait : ((after (exec (.write 5 0xA5A5) (opened 16 6 (low 25)))).eventTrace.drop 160) =
    [.set .cs false, .wait 250] := by decide
/-- EN2: at AW = 1 the frame is `1 00 1`, in 34 events. -/
theorem test_ewen_EN2 : (frameBits Levels.low (after (exec (.ewen 0 0) (opened 16 1 (low 4)))).eventTrace,
    (after (exec (.ewen 0 0) (opened 16 1 (low 4)))).seq) = ([true, false, false, true], 34) := by decide
/-- DS2: at AW = 8 the payload is eight 0s, in 76 events. -/
theorem test_ewds_DS2 : (frameBits Levels.low (after (exec (.ewds 0 0) (opened 16 8 (low 11)))).eventTrace,
    (after (exec (.ewds 0 0) (opened 16 8 (low 11)))).seq) = ([true, false, false] ++ low 8, 76) := by decide

/-! ### Reset, the response strobe, timing (95_test_vectors.md P4, TM6) -/

/-- P4: reset after event 100 of `WRITE 7, 0xFFFF` (0x1FFFE3D); 101 events are done, and the results are cleared. -/
theorem test_reset_P4 : ((after (step (hosted { opened 16 6 (low 25) with rdata := 0x1111 }
      [.interrupted 0x1FFFE3D 101]))).rdata,
    (after (step (hosted { opened 16 6 (low 25) with rdata := 0x1111 } [.interrupted 0x1FFFE3D 101]))).seq,
    (after (step (hosted { opened 16 6 (low 25) with rdata := 0x1111 } [.interrupted 0x1FFFE3D 101]))).samples) =
    (0, 0, 16) := by decide
/-- `rsp_valid` is 0 again after the host step in which it could be read (R35). -/
theorem test_rspValid_one_step : (after (step { opened 2 2 [] with rspValid := true })).rspValid = false := by decide
/-- TM6: the waits of a READ with T_PRE1 = 3, T_PRE2 = 5, T_HALF = 2 sum to 112 µs. -/
theorem test_waits_TM6 : waitSum (eventsOf (pars 16 6) (.read 5 0)) = 112 := by decide

/-! ### Witnesses: for each statement with hypotheses, a state and operands that meet them -/

/-- A WRITE caught after its third event. -/
def midWrite : State := ((opened 2 2 (low 7)).accept (.write 1 2)).runMicros ((programOf (pars 2 2) (.write 1 2)).take 3)

theorem opened_settled (ps aw : Nat) (di : List Bool) : Settled (opened ps aw di) := by
  simp [Settled, IdleLines, IdleOpenLines, Fits, opened, closed, State.reset, Dirs.claimed]

theorem closed_settled (ps aw : Nat) : Settled (closed ps aw) := by
  simp [Settled, IdleLines, ClosedLines, Fits, closed, State.reset]

theorem opened_inv (ps aw : Nat) (di : List Bool) : InOrder (opened ps aw di) := opened_settled ps aw di

theorem midWrite_busy : midWrite.busy = true := by decide

theorem midWrite_inv : InOrder midWrite := by
  unfold InOrder
  rw [if_pos midWrite_busy]
  exact ⟨opened 2 2 (low 7), .write 1 2, 3, opened_settled _ _ _, ⟨by decide, by decide⟩, by decide, rfl⟩

theorem permitted_write : Permitted (opened 2 2 (low 7)) (.write 1 2) := ⟨by decide, by decide⟩

theorem witness_DecodeOfEncode : (Instr.write 5 0xA5A5).WellFormed Geometry.standard := by decide
theorem witness_EncodeOfDecode : decode Geometry.standard 0x14B4A2D = .ok (.write 5 0xA5A5) := by rfl
theorem witness_DecodeFollows_1 : 0x0000001 % 8 = 0b001 := by decide
theorem witness_DecodeFollows_2 : 0x0000002 % 8 = 0b010 := by decide
theorem witness_DecodeFollows_4 : 0x00001FC % 8 = 0b100 := by decide
theorem witness_DecodeFollows_5 : 0x1000205 % 8 = 0b101 := by decide
theorem witness_DecodeFollows_6 : 0x0000006 % 8 = 0b110 := by decide
theorem witness_DecodeFollows_7 : 0x0000007 % 8 = 0b111 := by decide
theorem witness_DecodeFollows_reserved : 0x0000003 % 8 = 0b000 ∨ 0x0000003 % 8 = 0b011 := by decide

/-- StepRunsPresentedCommand, and PresentedWordsRefusedExactly's clause of a WRITE that runs. -/
theorem witness_StepRuns : (hosted (opened 16 6 []) [.command 0x14B4A2D]).busy = false ∧
    (hosted (opened 16 6 []) [.command 0x14B4A2D]).host = .command 0x14B4A2D :: [] ∧
    decode (hosted (opened 16 6 []) [.command 0x14B4A2D]).cfg.geom 0x14B4A2D = .ok (.write 5 0xA5A5) ∧
    4 ≤ 0x14B4A2D % 8 ∧ (hosted (opened 16 6 []) [.command 0x14B4A2D]).isOpen = true := ⟨rfl, rfl, rfl, by decide, rfl⟩
theorem witness_WordOnThePort : decode (opened 16 6 []).cfg.geom (0x14B4A2D % 2 ^ 32) = .ok (.write 5 0xA5A5) := by rfl
theorem witness_Refused_reserved : (hosted (opened 16 6 []) [.command 3]).busy = false ∧
    (hosted (opened 16 6 []) [.command 3]).host = .command 3 :: [] ∧ (3 % 8 = 0b000 ∨ 3 % 8 = 0b011) := by decide
theorem witness_Refused_notOpen : (hosted (closed 16 6) [.command 4]).busy = false ∧
    (hosted (closed 16 6) [.command 4]).host = .command 4 :: [] ∧ (4 % 8 = 0b010 ∨ 4 ≤ 4 % 8) ∧
    (hosted (closed 16 6) [.command 4]).isOpen = false := by decide
theorem witness_Refused_alreadyOpen : (hosted (opened 16 6 []) [.command 1]).busy = false ∧
    (hosted (opened 16 6 []) [.command 1]).host = .command 1 :: [] ∧ 1 % 8 = 0b001 ∧
    (hosted (opened 16 6 []) [.command 1]).isOpen = true := by decide
theorem witness_Refused_opens : (hosted (closed 16 6) [.command 1]).busy = false ∧
    (hosted (closed 16 6) [.command 1]).host = .command 1 :: [] ∧ 1 % 8 = 0b001 ∧
    (hosted (closed 16 6) [.command 1]).isOpen = false := by decide
theorem witness_IdleHostStep : (opened 16 6 []).busy = false ∧
    ((opened 16 6 []).host = [] ∨ ∃ rest, (opened 16 6 []).host = .idle :: rest) := ⟨rfl, .inl rfl⟩
theorem witness_BusyPort : midWrite.busy = true ∧ midWrite.host.head? ≠ some .reset ∧
    [HostMove.command 1].head? ≠ some .reset ∧ ∃ t, step midWrite = .next t :=
  ⟨by decide, by decide, by decide, _, rfl⟩
theorem witness_ResetRestores : (hosted midWrite [.reset]).host = .reset :: [] := by rfl
theorem witness_ResetAbandons : (hosted (opened 16 6 []) [.interrupted 0x1FFFE3D 101]).host = .interrupted 0x1FFFE3D 101 :: [] ∧
    decode (hosted (opened 16 6 []) [.interrupted 0x1FFFE3D 101]).cfg.geom 0x1FFFE3D = .ok (.write 7 0xFFFF) ∧
    Permitted (hosted (opened 16 6 []) [.interrupted 0x1FFFE3D 101]) (.write 7 0xFFFF) :=
  ⟨rfl, rfl, by decide, by decide⟩
theorem witness_Configure_ill : ¬ (1 ≤ (pars 0 6).geom.ps ∧ 1 ≤ (pars 0 6).geom.aw ∧ (pars 0 6).tWriteCount = 250 ∧
    ((pars 0 6).writeUnit = 1 ∨ (pars 0 6).writeUnit = 1000)) := by decide
theorem witness_Configure_shared : (pars 1 1).WellFormed ∧
    ∃ q ∈ [Pins.mk 9 8 7 6 4], ∃ pin, pin ∈ (pars 1 1).pins.toList ∧ pin ∈ q.toList :=
  ⟨by decide, ⟨9, 8, 7, 6, 4⟩, by decide, 4, by decide, by decide⟩
theorem witness_Configure_free : (pars 1 1).WellFormed ∧
    ¬ ∃ q ∈ ([] : List Pins), ∃ pin, pin ∈ (pars 1 1).pins.toList ∧ pin ∈ q.toList := ⟨by decide, by simp⟩
/-- OpenClaimsTheLines, OpenPerformsItsTenEvents. -/
theorem witness_Open : (closed 16 6).busy = false ∧ (closed 16 6).isOpen = false := by decide
/-- CLOSE's, READ's, WRITE's, EWEN's and EWDS's statements. -/
theorem witness_Open_engine : (opened 16 6 []).busy = false ∧ (opened 16 6 []).isOpen = true := by decide
theorem witness_EndIdleOpen : (Instr.read 5 0).cmd.isTransaction = true ∧ (opened 16 6 []).isOpen = true ∧
    (opened 16 6 []).busy = false ∧ IdleOpenLines (opened 16 6 []) := by decide
/-- The statements on Transfer, at the widest count. -/
theorem witness_Transfer : 1 ≤ 17 ∧ 17 ≤ (opened 16 6 []).cfg.geom.wmax ∧ 16 < 17 ∧ 1 ≤ 6 ∧ 6 ≤ 6 := by decide
/-- The counts of R8 and R91. -/
theorem witness_Counts : (17 : Nat) ∈ [3, Geometry.standard.aw, Geometry.standard.ps, Geometry.standard.ps + 1] := by decide
theorem witness_Wire : (Levels.mk true false true true).clk = false ∧ (Instr.ewds 0 0).cmd.isTransaction = true := by decide
theorem witness_ClockLow : Levels.low.clk = false ∧ OutLine.dout ≠ .clk ∧
    (eventsOf (pars 2 2) (.read 2 0))[8]? = some (.set .dout true) := by decide
/-- The statements whose hypothesis is the invariant. -/
theorem witness_Inv_idle : InOrder (opened 16 6 []) ∧ (opened 16 6 []).busy = false := ⟨opened_inv _ _ _, rfl⟩
theorem witness_Inv_busy : InOrder midWrite ∧ midWrite.busy = true ∧ midWrite.host.head? ≠ some .reset :=
  ⟨midWrite_inv, by decide, by decide⟩
theorem witness_Inv_step : InOrder midWrite ∧ ∃ t, step midWrite = .next t := ⟨midWrite_inv, _, rfl⟩
theorem witness_Inv_closed : InOrder (closed 16 6) ∧ (closed 16 6).busy = false ∧ (closed 16 6).isOpen = false :=
  ⟨closed_settled 16 6, rfl, rfl⟩
/-- EventsAreSpacedByTheirWaits, HalfPeriodSetupInEveryFrame, SequencerStepsReachCommandResult,
NoEventDrivesProgramEnableHigh, DeviceReachesOnlySamplesAndResults. -/
theorem witness_Exec : Permitted (opened 2 2 (low 7)) (.write 1 2) ∧ (Instr.write 1 2).cmd.isTransaction = true ∧
    (opened 2 2 (low 7)).host.head? ≠ some .reset ∧ ∃ t, exec (.write 1 2) (opened 2 2 (low 7)) = .next t :=
  ⟨permitted_write, by decide, by decide, _, rfl⟩
theorem witness_Payload : (3 : Nat) < (pars 16 6).geom.aw ∧ ¬ ∃ j, j < (pars 16 6).geom.aw ∧ 26 = 27 + 6 * j := by
  refine ⟨by decide, ?_⟩
  rintro ⟨j, _, h⟩
  omega
theorem witness_Spacing : (opened 2 2 []).busy = false ∧ (opened 2 2 []).isOpen = true ∧
    (Instr.write 1 2).cmd.isTransaction = true ∧ (Instr.read 1 0).cmd.isTransaction = true := by decide
theorem witness_Configured : ∃ s, configure (pars 16 6) [] = .next s := ⟨_, rfl⟩
/-- OnlyReadAndResetWriteResults: a READ that changes `rdata`. -/
theorem witness_Results : isNext (step (hosted (opened 2 2 (low 6 ++ [true, false])) [.command 0b10_100])) = true ∧
    (after (step (hosted (opened 2 2 (low 6 ++ [true, false])) [.command 0b10_100]))).rdata ≠
      (hosted (opened 2 2 (low 6 ++ [true, false])) [.command 0b10_100]).rdata := by decide
theorem witness_Open_changes : isNext (step (hosted (closed 2 2) [.command 1])) = true ∧
    (after (step (hosted (closed 2 2) [.command 1]))).isOpen ≠ (hosted (closed 2 2) [.command 1]).isOpen := by decide
/-- ReadAfterWriteReturnsTheValue: a device that answers 0 and then the bits 1, 0 it was sent. -/
theorem witness_RoundTrip :
    (opened 2 2 (low 7 ++ low 6 ++ [true, false])).busy = false ∧
    (opened 2 2 (low 7 ++ low 6 ++ [true, false])).isOpen = true ∧
    IdleOpenLines (opened 2 2 (low 7 ++ low 6 ++ [true, false])) ∧
    (after (exec (.write 1 2) (opened 2 2 (low 7 ++ low 6 ++ [true, false])))).diAt (3 + 2) = false ∧
    ∀ m, m < 2 → some ((after (exec (.write 1 2) (opened 2 2 (low 7 ++ low 6 ++ [true, false])))).diAt (3 + 2 + 1 + m)) =
      ((frameBits Levels.low (after (exec (.write 1 2) (opened 2 2 (low 7 ++ low 6 ++ [true, false])))).eventTrace).drop
        (3 + 2))[m]? := by decide

/-- LinesReleasedExactlyIfHostEndsLifetimes: a host that closes what it opened, and one that does not. -/
theorem witness_HostEndsLifetimes : HostEndsLifetimes (hosted (closed 2 2) [.command 1, .command 2]) ∧
    InOrder (hosted (closed 2 2) [.command 1, .command 2]) ∧
    (match Host.Core.run core 2 (hosted (closed 2 2) [.command 1, .command 2]) with
      | .next _ => true | .fault _ => false | .refused _ => false) = true :=
  ⟨by decide, closed_settled 2 2, by decide⟩
theorem witness_HostLeavesOpen : ¬ HostEndsLifetimes (hosted (closed 2 2) [.command 1, .idle]) ∧
    InOrder (hosted (closed 2 2) [.command 1, .idle]) ∧
    (match Host.Core.run core 2 (hosted (closed 2 2) [.command 1, .idle]) with
      | .next _ => true | .fault _ => false | .refused _ => false) = true :=
  ⟨by decide, closed_settled 2 2, by decide⟩

/-- BootedTransportReadsBackWhatItWrote: another engine and another agent on other pins, and a device that answers 0 and
then the bits 1, 0 it was sent. -/
theorem witness_Boot : BootPremises (pars 2 2) ⟨2, 2⟩ [⟨5, 6, 7, 8, 9⟩] [[10, 11]] := by decide
theorem witness_Boot_device :
    (after (exec (.write 1 2) (after (exec (.openCmd 0 0) { closed 2 2 with di := low 12 ++ low 1 ++ [true, false] })))).diAt
      (3 + 2) = false ∧
    ∀ m, m < 2 →
      some ((after (exec (.write 1 2) (after (exec (.openCmd 0 0)
        { closed 2 2 with di := low 12 ++ low 1 ++ [true, false] })))).diAt (3 + 2 + 1 + m)) =
      ((frameBits Levels.low ((after (exec (.write 1 2) (after (exec (.openCmd 0 0)
        { closed 2 2 with di := low 12 ++ low 1 ++ [true, false] })))).eventTrace.drop 10)).drop (3 + 2))[m]? := by decide
/-- The pins of an open engine are driven by their own roles, and of two roles on one pin both drive it (log 15). -/
theorem test_drivers : (opened 2 2 []).driversAt 3 = [.dout] ∧ (opened 2 2 []).driversAt 2 = [] ∧
    ({ opened 2 2 [] with cfg := { pars 2 2 with pins := ⟨0, 1, 2, 0, 4⟩ } } : State).driversAt 0 = [.cs, .dout] := by
  decide

end Sys2Proof.Tests
end

section
/-! Configuration (spec/00_scope.md R8, R58, R123), and what a step can refuse (R65, R114). -/

namespace Sys2Proof.Machine

/-! ### Refusals of a running engine -/

section refusals
variable {s : State} {r : Refusal}

theorem whenOpen_refused_iff {run : State → State} :
    s.whenOpen run = .refused r ↔ s.busy = false ∧ s.isOpen = false ∧ r = .notOpen := by
  cases hb : s.busy <;> cases ho : s.isOpen <;> simp [State.whenOpen, hb, ho, eq_comm]

theorem whenClosed_refused_iff {run : State → State} :
    s.whenClosed run = .refused r ↔ s.busy = false ∧ s.isOpen = true ∧ r = .alreadyOpen := by
  cases hb : s.busy <;> cases ho : s.isOpen <;> simp [State.whenClosed, hb, ho, eq_comm]

/-- R65: a command is refused by its precondition on `open` alone, and only while idle (R28). -/
theorem exec_refused_iff (i : Instr) :
    exec i s = .refused r ↔ s.busy = false ∧
      (i.cmd ≠ .openCmd ∧ s.isOpen = false ∧ r = .notOpen ∨ i.cmd = .openCmd ∧ s.isOpen = true ∧ r = .alreadyOpen) := by
  cases i with
  | openCmd a d => simp [exec, execOpen, whenClosed_refused_iff, Instr.cmd]
  | closeCmd a d => simp [exec, execClose, whenOpen_refused_iff, Instr.cmd]
  | read a d => simp [exec, execRead, whenOpen_refused_iff, Instr.cmd]
  | write a d => simp [exec, execWrite, whenOpen_refused_iff, Instr.cmd]
  | ewen a d => simp [exec, execEwen, whenOpen_refused_iff, Instr.cmd]
  | ewds a d => simp [exec, execEwds, whenOpen_refused_iff, Instr.cmd]

theorem refusalOf_eq (e : DecodeError) : refusalOf e = .reservedCommand := by
  cases e with
  | reservedCommand op => rfl

/-- A presented word is refused for its code, or as `exec` refuses its command (R65, R116). -/
theorem present_refused_iff (w : Word) :
    s.present w = .refused r ↔
      (∃ e, decode s.cfg.geom w = .error e) ∧ r = .reservedCommand ∨
      ∃ i, decode s.cfg.geom w = .ok i ∧ exec i s = .refused r := by
  cases hd : decode s.cfg.geom w with
  | ok i => simp [State.present, hd]
  | error e => simp [State.present, hd, refusalOf_eq, eq_comm]

/-- Reset in the middle of a command changes nothing about what is refused (R114). -/
theorem presentInterrupted_refused_iff (w : Word) (k : Nat) :
    s.presentInterrupted w k = .refused r ↔ s.present w = .refused r := by
  cases hd : decode s.cfg.geom w with
  | ok i => cases he : exec i s <;> simp [State.presentInterrupted, State.present, hd, he]
  | error e => simp [State.presentInterrupted, State.present, hd]

theorem sequencerStep_ne_refused : s.sequencerStep ≠ .refused r := by
  unfold State.sequencerStep
  split
  · simp
  · split
    · simp
    · split <;> simp

theorem busyStep_ne_refused : s.busyStep ≠ .refused r := by
  unfold State.busyStep
  split
  · simp
  · exact sequencerStep_ne_refused

/-- A step refuses nothing but a word presented to an idle engine. -/
theorem step_refused (h : step s = .refused r) : ∃ w, s.dropMove.present w = .refused r := by
  unfold step State.hostStep at h
  split at h
  · exact absurd h busyStep_ne_refused
  · split at h
    · cases h
    · cases h
    · exact ⟨_, h⟩
    · exact ⟨_, (presentInterrupted_refused_iff _ _).mp h⟩
    · cases h

/-- The refusals a step can answer are R65's three. -/
theorem step_refused_cases (h : step s = .refused r) : r = .reservedCommand ∨ r = .notOpen ∨ r = .alreadyOpen := by
  obtain ⟨w, hw⟩ := step_refused h
  obtain ⟨-, hr⟩ | ⟨i, -, hi⟩ := (present_refused_iff w).mp hw
  · exact .inl hr
  · obtain ⟨-, ⟨-, -, hr⟩ | ⟨-, -, hr⟩⟩ := (exec_refused_iff i).mp hi
    · exact .inr (.inl hr)
    · exact .inr (.inr hr)

end refusals

/-! ### Configuration -/

/-- Some other engine has a pin of `p` (R58, with log 15's reading of R123). -/
theorem any_shares_iff (p : Pins) (others : List Pins) :
    others.any (fun q => p.shares q) = true ↔ ∃ q ∈ others, ∃ pin, pin ∈ p.toList ∧ pin ∈ q.toList := by
  simp [Pins.shares]

theorem configure_of_not_wellFormed {p : Params} (others : List Pins) (h : ¬ p.WellFormed) :
    configure p others = .refused .badGeometry := if_neg h

theorem configure_of_shared {p : Params} {others : List Pins} (h : p.WellFormed)
    (hs : others.any (fun q => p.pins.shares q) = true) : configure p others = .refused .sharedLines := by
  rw [configure, if_pos h, if_pos hs]

theorem configure_of_free {p : Params} {others : List Pins} (h : p.WellFormed)
    (hs : ¬ others.any (fun q => p.pins.shares q) = true) : configure p others = .next { State.reset with cfg := p } := by
  rw [configure, if_pos h, if_neg hs]

/-- The parameters are no state item (R41): the reset state has R39's values whatever they are. -/
theorem atReset_reset_with_cfg (p : Params) : AtReset { State.reset with cfg := p } := by
  simp [AtReset, State.reset]

/-- R7, R91: every Transfer's count fits the shift registers. -/
theorem count_le_wmax (g : Geometry) {n : Nat} (hn : n ∈ [3, g.aw, g.ps, g.ps + 1]) : n ≤ g.wmax := by
  simp only [List.mem_cons, List.not_mem_nil, or_false] at hn
  unfold Geometry.wmax
  omega

/-- Settles O13: `configure`'s three branches, and `step_refused_cases` for the running engine. -/
theorem configurationRefusedExactly : Obligations.ConfigurationRefusedExactly := by
  intro p others wellFormed shared
  have hshared : others.any (fun q => p.pins.shares q) = true ↔ shared := any_shares_iff p.pins others
  refine ⟨configure_of_not_wellFormed others, fun hw hs => configure_of_shared hw (hshared.mpr hs), fun hw hs => ?_,
    fun s => ⟨fun h => ?_, fun h => ?_⟩, fun n => count_le_wmax p.geom⟩
  · exact ⟨_, configure_of_free hw (hshared.not.mpr hs), rfl, atReset_reset_with_cfg p⟩
  · simpa using step_refused_cases h
  · simpa using step_refused_cases h

end Sys2Proof.Machine
end

section
/-! The engine's invariant (spec/10_state.md R37, R38), the reset values (R39) and `rsp_valid` (R35).

The idea: a running command's state is determined by the settled state that accepted it and by how many of its events
are done (`MidCommand`), so a step either performs one event more or completes the command, and a completed command
leaves the engine settled (`settled_completed`). -/

namespace Sys2Proof.Machine

/-! ### The lines after a transaction -/

section lines
variable (s : State) (p : Params)

@[simp] theorem laterCells_dir (n : Nat) : (s.runMicros (laterCells p n)).dir = s.dir := by
  induction n generalizing s with
  | zero => simp [laterCells, runMicros_cons]
  | succ n ih => simp [laterCells, runMicros_cons, runMicros_append, ih]

@[simp] theorem transfer_dir (value : Word) (n : Nat) : (s.runMicros (transfer p value n)).dir = s.dir := by
  cases n with
  | zero => simp [transfer, runMicros_cons]
  | succ n => simp [transfer, runMicros_cons, runMicros_append]

@[simp] theorem beginTransaction_dir (opw : Word) : (s.runMicros (beginTransaction p opw)).dir = s.dir := by
  simp [beginTransaction, prePulse, runMicros_cons]

/-- The cells leave CLK low and DO idle low, CS and PE as they were (R84). -/
theorem laterCells_lvl (n : Nat) (hclk : s.lvl.clk = false) :
    (s.runMicros (laterCells p n)).lvl = ⟨s.lvl.cs, false, false, s.lvl.pe⟩ := by
  induction n generalizing s with
  | zero => simp [laterCells, runMicros_cons, Levels.put, hclk]
  | succ n ih => simp [laterCells, runMicros_cons, runMicros_append, ih]

theorem transfer_lvl (value : Word) (n : Nat) (hclk : s.lvl.clk = false) :
    (s.runMicros (transfer p value n)).lvl = ⟨s.lvl.cs, false, false, s.lvl.pe⟩ := by
  cases n with
  | zero => simp [transfer, runMicros_cons, Levels.put, hclk]
  | succ n => simp [transfer, runMicros_cons, runMicros_append, laterCells_lvl]

/-- The pre-pulse sets CS, DO and CLK whatever they were, so no premise is needed (R93, R94). -/
@[simp] theorem beginTransaction_lvl (opw : Word) :
    (s.runMicros (beginTransaction p opw)).lvl = ⟨true, false, false, s.lvl.pe⟩ := by
  rw [beginTransaction, runMicros_append, runMicros_cons, transfer_lvl]
  · simp [prePulse, runMicros_cons, Levels.put]
  · simp [prePulse, runMicros_cons, Levels.put]

/-- A transaction keeps the directions and ends with CS, CLK and DO low (R60, R97). -/
theorem transaction_lines {c : Cmd} (hc : c.isTransaction = true) (a d : Word) :
    (s.runMicros (program p c a d)).dir = s.dir ∧
      (s.runMicros (program p c a d)).lvl = ⟨false, false, false, s.lvl.pe⟩ := by
  cases c with
  | openCmd => cases hc
  | closeCmd => cases hc
  | read => simp [program, readProgram, endTransaction, runMicros_append, runMicros_cons, transfer_lvl, Levels.put]
  | write => simp [program, writeProgram, endTransaction, runMicros_append, runMicros_cons, transfer_lvl, Levels.put]
  | ewen => simp [program, ewenProgram, endTransaction, runMicros_append, runMicros_cons, transfer_lvl, Levels.put]
  | ewds => simp [program, ewdsProgram, endTransaction, runMicros_append, runMicros_cons, transfer_lvl, Levels.put]

end lines

/-! ### Completion writes -/

section finish
variable (s : State) (c : Cmd)

@[simp] theorem finish_cfg : (s.finish c).cfg = s.cfg := by cases c <;> rfl
@[simp] theorem finish_dir : (s.finish c).dir = s.dir := by cases c <;> rfl
@[simp] theorem finish_lvl : (s.finish c).lvl = s.lvl := by cases c <;> rfl
@[simp] theorem finish_busy : (s.finish c).busy = false := by cases c <;> rfl
@[simp] theorem finish_tmr : (s.finish c).tmr = s.tmr := by cases c <;> rfl

/-- Only READ raises `rsp_valid` (R35). -/
@[simp] theorem finish_rspValid : (s.finish c).rspValid = true ↔ s.rspValid = true ∨ c = .read := by
  cases c <;> simp [State.finish]

end finish

/-! ### A whole command -/

/-- A command run from its acceptance to its completion writes (R30, R71). -/
def State.completed (s : State) (i : Instr) : State := ((s.accept i).runMicros (programOf s.cfg i)).finish i.cmd

@[simp] theorem completed_busy (s : State) (i : Instr) : (s.completed i).busy = false := finish_busy _ _

@[simp] theorem completed_rspValid (s : State) (i : Instr) : (s.completed i).rspValid = true ↔ i.cmd = .read := by
  simp [State.completed]

theorem whenOpen_of_open {s : State} {run : State → State} (hb : s.busy = false) (ho : s.isOpen = true) :
    s.whenOpen run = .next (run s) := by
  simp [State.whenOpen, hb, ho]

theorem whenClosed_of_closed {s : State} {run : State → State} (hb : s.busy = false) (ho : s.isOpen = false) :
    s.whenClosed run = .next (run s) := by
  simp [State.whenClosed, hb, ho]

/-- The meaning of a permitted command is its whole run. -/
theorem exec_of_permitted {s : State} {i : Instr} (h : Permitted s i) : exec i s = .next (s.completed i) := by
  obtain ⟨hb, ho⟩ := h
  cases i with
  | openCmd a d => rw [exec, execOpen, whenClosed_of_closed hb (by simpa [Instr.cmd] using ho)]; rfl
  | closeCmd a d => rw [exec, execClose, whenOpen_of_open hb (ho.mpr nofun)]; rfl
  | read a d => rw [exec, execRead, whenOpen_of_open hb (ho.mpr nofun)]; rfl
  | write a d => rw [exec, execWrite, whenOpen_of_open hb (ho.mpr nofun)]; rfl
  | ewen a d => rw [exec, execEwen, whenOpen_of_open hb (ho.mpr nofun)]; rfl
  | ewds a d => rw [exec, execEwds, whenOpen_of_open hb (ho.mpr nofun)]; rfl

theorem exec_eq_completed {s t : State} {i : Instr} (hb : s.busy = false) (h : exec i s = .next t) :
    Permitted s i ∧ t = s.completed i := by
  obtain ⟨hp, -⟩ := exec_next s t i hb h
  rw [exec_of_permitted hp] at h
  cases h
  exact ⟨hp, rfl⟩

theorem completed_isOpen {s : State} {i : Instr} (hp : Permitted s i) :
    (s.completed i).isOpen = decide (i.cmd ≠ .closeCmd) := by
  obtain ⟨-, -, hopen, -⟩ := exec_next s _ i hp.1 (exec_of_permitted hp)
  exact hopen

/-- The two fields are cut to their width where they are used (R48), so cutting them before changes no event. -/
@[simp] theorem program_trunc (p : Params) (c : Cmd) (a d : Word) :
    program p c (trunc p.geom.aw a) (trunc p.geom.ps d) = program p c a d := by
  cases c with
  | openCmd => rfl
  | closeCmd => rfl
  | read => simp [program, readProgram, addrOperand]
  | write => simp [program, writeProgram, addrOperand, dataOperand]
  | ewen => rfl
  | ewds => rfl

/-! ### What a step can do -/

/-- The steps of the machine, one constructor for each kind, with what each leaves. -/
inductive StepTo (s : State) : State → Prop
  /-- `rst` is asserted (R127). -/
  | reset (hh : s.host.head? = some .reset) : StepTo s s.dropMove.applyReset
  /-- The host presents nothing (R35, R125). -/
  | nothing (hb : s.busy = false) (hh : s.host = [] ∨ s.host.head? = some .idle) : StepTo s s.dropMove.idleStep
  /-- The host presents a permitted command, which runs to its end (R71). -/
  | command {w : Word} {i : Instr} {rest : List HostMove} (hb : s.busy = false) (hh : s.host = .command w :: rest)
      (hd : decode s.cfg.geom w = .ok i) (hp : Permitted s i) : StepTo s (s.dropMove.completed i)
  /-- A presented command is abandoned by reset after `k` events (R127). -/
  | interrupted {w : Word} {k : Nat} {i : Instr} {rest : List HostMove} (hb : s.busy = false)
      (hh : s.host = .interrupted w k :: rest) (hd : decode s.cfg.geom w = .ok i) (hp : Permitted s i) :
      StepTo s (s.dropMove.cutShort i k)
  /-- A running command performs an event that is not its last (R30). -/
  | event {c : Cmd} {m : Micro} (hb : s.busy = true) (hh : s.host.head? ≠ some .reset)
      (hc : Cmd.ofCode s.cur.op = some c) (hm : (program s.cfg c s.cur.addr s.cur.data)[s.seq]? = some m)
      (hl : s.seq + 1 ≠ (program s.cfg c s.cur.addr s.cur.data).length) : StepTo s (s.micro m)
  /-- A running command performs its last event and its completion writes (R30). -/
  | lastEvent {c : Cmd} {m : Micro} (hb : s.busy = true) (hh : s.host.head? ≠ some .reset)
      (hc : Cmd.ofCode s.cur.op = some c) (hm : (program s.cfg c s.cur.addr s.cur.data)[s.seq]? = some m)
      (hl : s.seq + 1 = (program s.cfg c s.cur.addr s.cur.data).length) : StepTo s ((s.micro m).finish c)

section stepTo
variable {s t : State}

theorem stepTo_of_busyStep (hb : s.busy = true) (h : s.busyStep = .next t) : StepTo s t := by
  unfold State.busyStep at h
  split at h
  next rest hh => cases h; exact .reset (by simp [hh])
  next hne =>
    have hh : s.host.head? ≠ some .reset := fun e => by
      obtain ⟨rest, hr⟩ := List.head?_eq_some_iff.mp e
      exact hne rest hr
    unfold State.sequencerStep at h
    split at h
    next => cases h
    next c hc =>
      split at h
      next => cases h
      next m hm =>
        split at h
        next hl => cases h; exact .lastEvent hb hh hc hm hl
        next hl => cases h; exact .event hb hh hc hm hl

theorem present_next {w : Word} (hb : s.busy = false) (h : s.present w = .next t) :
    ∃ i, decode s.cfg.geom w = .ok i ∧ Permitted s i ∧ t = s.completed i := by
  unfold State.present at h
  split at h
  next i hd => exact ⟨i, hd, exec_eq_completed hb h⟩
  next => cases h

theorem presentInterrupted_next {w : Word} {k : Nat} (hb : s.busy = false) (h : s.presentInterrupted w k = .next t) :
    ∃ i, decode s.cfg.geom w = .ok i ∧ Permitted s i ∧ t = s.cutShort i k := by
  unfold State.presentInterrupted at h
  split at h
  next i hd =>
    split at h
    next t' he =>
      cases h
      exact ⟨i, hd, (exec_eq_completed hb he).1, rfl⟩
    next => cases h
    next => cases h
  next => cases h

theorem stepTo_of_hostStep (hb : s.busy = false) (h : s.hostStep = .next t) : StepTo s t := by
  unfold State.hostStep at h
  split at h
  next hh =>
    cases h
    have hdrop : s.dropMove = s := by cases s; simp_all [State.dropMove]
    rw [← congrArg State.idleStep hdrop]
    exact .nothing hb (.inl hh)
  next rest hh => cases h; exact .nothing hb (.inr (by simp [hh]))
  next w rest hh =>
    obtain ⟨i, hd, hp, rfl⟩ := present_next (s := s.dropMove) hb h
    exact .command hb hh hd hp
  next w k rest hh =>
    obtain ⟨i, hd, hp, rfl⟩ := presentInterrupted_next (s := s.dropMove) hb h
    exact .interrupted hb hh hd hp
  next rest hh => cases h; exact .reset (by simp [hh])

/-- Every step that answers a next state is one of the six kinds. -/
theorem stepTo_of_step (h : step s = .next t) : StepTo s t := by
  unfold step at h
  split at h
  next hb => exact stepTo_of_busyStep hb h
  next hb => exact stepTo_of_hostStep (by simpa using hb) h

end stepTo

/-! ### Registers at their widths, and the timer -/

section widths
variable {s : State}

theorem fits_accept (i : Instr) (h : Fits s) : Fits (s.accept i) := by
  obtain ⟨-, -, hregs⟩ := h
  exact ⟨trunc_lt _ _, trunc_lt _ _, hregs⟩

theorem fits_micro (m : Micro) (h : Fits s) : Fits (s.micro m) := by
  obtain ⟨haddr, hdata, htx, hrx, hbi, hresults⟩ := h
  have htx' : (s.micro m).tx < 2 ^ s.cfg.geom.wmax := by
    cases m with
    | firstSample v n => exact trunc_lt _ _
    | emptyTransfer v => exact trunc_lt _ _
    | _ => exact htx
  have hrx' : (s.micro m).rx < 2 ^ s.cfg.geom.wmax := by
    cases m with
    | firstSample v n => exact trunc_lt _ _
    | nextSample => exact trunc_lt _ _
    | emptyTransfer v => exact Nat.two_pow_pos _
    | _ => exact hrx
  have hbi' : (s.micro m).bi < 2 ^ s.cfg.geom.biWidth := by
    cases m with
    | firstSample v n => exact trunc_lt _ _
    | nextSample => exact Nat.lt_of_le_of_lt (Nat.sub_le _ _) hbi
    | emptyTransfer v => exact trunc_lt _ _
    | _ => exact hbi
  simp only [Fits, micro_cfg, micro_cur, micro_rdata, micro_rraw]
  exact ⟨haddr, hdata, htx', hrx', hbi', hresults⟩

theorem fits_runMicros (ms : List Micro) (h : Fits s) : Fits (s.runMicros ms) := by
  induction ms generalizing s with
  | nil => exact h
  | cons m ms ih => exact ih (fits_micro m h)

/-- READ's two results are cut from the same `rx`, so the low bits of `rraw` are `rdata` (R100). -/
theorem fits_finish (c : Cmd) (h : Fits s) : Fits (s.finish c) := by
  cases c with
  | read =>
    obtain ⟨haddr, hdata, htx, hrx, hbi, -⟩ := h
    have hlow : trunc (s.cfg.geom.ps + 1) s.rx % 2 ^ s.cfg.geom.ps = trunc s.cfg.geom.ps s.rx :=
      Nat.mod_mod_of_dvd _ (Nat.pow_dvd_pow 2 (Nat.le_succ _))
    exact ⟨haddr, hdata, htx, hrx, hbi, trunc_lt _ _, trunc_lt _ _, hlow⟩
  | _ => exact h

theorem micro_tmr_zero (m : Micro) (h : s.tmr = 0) : (s.micro m).tmr = 0 := by
  cases m with
  | wait t => rfl
  | _ => exact h

theorem runMicros_tmr_zero (ms : List Micro) (h : s.tmr = 0) : (s.runMicros ms).tmr = 0 := by
  induction ms generalizing s with
  | nil => exact h
  | cons m ms ih => exact ih (micro_tmr_zero m h)

end widths

/-! ### A completed command leaves a settled engine -/

section settled
variable {s : State}

/-- R37, R38: OPEN claims the lines, CLOSE releases them, and a transaction returns every latch to its idle level. -/
theorem idleLines_completed {i : Instr} (hl : IdleLines s) (hp : Permitted s i) : IdleLines (s.completed i) := by
  have hopen : (s.completed i).isOpen = decide (i.cmd ≠ .closeCmd) := completed_isOpen hp
  have hidle (hne : i.cmd ≠ .openCmd) : IdleOpenLines s := by simpa [IdleLines, hp.2.mpr hne] using hl
  cases hcmd : i.cmd with
  | openCmd =>
    rw [IdleLines, if_pos (by simp [hopen, hcmd])]
    simp [IdleOpenLines, State.completed, programOf, hcmd, program, openProgram, runMicros_cons, Dirs.put, Levels.put]
  | closeCmd =>
    obtain ⟨-, hlvl⟩ := hidle (by simp [hcmd])
    rw [IdleLines, if_neg (by simp [hopen, hcmd])]
    simp [ClosedLines, State.completed, programOf, hcmd, program, closeProgram, runMicros_cons, Dirs.put, hlvl]
  | read | write | ewen | ewds =>
    obtain ⟨hdir, hlvl⟩ := hidle (by simp [hcmd])
    have hc : i.cmd.isTransaction = true := by rw [hcmd]; rfl
    rw [IdleLines, if_pos (by simp [hopen, hcmd])]
    simp [IdleOpenLines, State.completed, programOf, transaction_lines, hc, hdir, hlvl]

theorem settled_completed {i : Instr} (h : Settled s) (hp : Permitted s i) : Settled (s.completed i) := by
  obtain ⟨-, hlines, hfits, htmr⟩ := h
  refine ⟨completed_busy s i, idleLines_completed hlines hp, ?_, ?_⟩
  · exact fits_finish _ (fits_runMicros _ (fits_accept i hfits))
  · rw [State.completed, finish_tmr]
    exact runMicros_tmr_zero _ htmr

theorem settled_applyReset (s : State) : Settled s.applyReset := by
  simp [Settled, IdleLines, ClosedLines, Fits, Dirs.released, Levels.low]

/-! Taking the host's move and ending the response strobe touch nothing that `Settled` speaks of. -/

theorem settled_dropMove (h : Settled s) : Settled s.dropMove := h

theorem settled_idleStep (h : Settled s) : Settled s.idleStep := h

end settled

/-! ### A running command -/

section midCommand
variable {s : State} {c : Cmd} {m : Micro}

theorem micro_runMicros_take {ms : List Micro} {k : Nat} (s : State) (h : ms[k]? = some m) :
    (s.runMicros (ms.take k)).micro m = s.runMicros (ms.take (k + 1)) := by
  rw [List.take_add_one, h, runMicros_append]
  rfl

/-- Any acceptance ends the response strobe, and no event raises it (R35). -/
theorem midCommand_rspValid (h : MidCommand s) : s.rspValid = false := by
  obtain ⟨s0, i, k, -, -, -, rfl⟩ := h
  simp

/-- One event more of a running command: what the sequencer reads in `cur` and `seq` is the accepted command and the
count of its events done (R29, R30). -/
theorem midCommand_micro (h : MidCommand s) (hc : Cmd.ofCode s.cur.op = some c)
    (hm : (program s.cfg c s.cur.addr s.cur.data)[s.seq]? = some m) :
    ∃ (s0 : State) (i : Instr), Settled s0 ∧ Permitted s0 i ∧ c = i.cmd ∧
      program s.cfg c s.cur.addr s.cur.data = programOf s0.cfg i ∧ s.seq < (programOf s0.cfg i).length ∧
      s.micro m = (s0.accept i).runMicros ((programOf s0.cfg i).take (s.seq + 1)) := by
  obtain ⟨s0, i, k, hs0, hp, hk, rfl⟩ := h
  obtain rfl : i.cmd = c := by simpa using hc
  have hprog : program s0.cfg i.cmd (trunc s0.cfg.geom.aw i.addr) (trunc s0.cfg.geom.ps i.data) = programOf s0.cfg i :=
    program_trunc _ _ _ _
  have hseq : ((s0.accept i).runMicros ((programOf s0.cfg i).take k)).seq = k := by
    simp [Nat.min_eq_left hk.le]
  simp only [hseq, runMicros_cfg, runMicros_cur, accept_cfg, accept_cur, hprog] at hm ⊢
  exact ⟨s0, i, hs0, hp, rfl, rfl, hk, micro_runMicros_take _ hm⟩

theorem midCommand_event (h : MidCommand s) (hc : Cmd.ofCode s.cur.op = some c)
    (hm : (program s.cfg c s.cur.addr s.cur.data)[s.seq]? = some m)
    (hl : s.seq + 1 ≠ (program s.cfg c s.cur.addr s.cur.data).length) : MidCommand (s.micro m) := by
  obtain ⟨s0, i, hs0, hp, -, hprog, hlt, hmicro⟩ := midCommand_micro h hc hm
  rw [hprog] at hl
  exact ⟨s0, i, s.seq + 1, hs0, hp, by omega, hmicro⟩

theorem midCommand_lastEvent (h : MidCommand s) (hc : Cmd.ofCode s.cur.op = some c)
    (hm : (program s.cfg c s.cur.addr s.cur.data)[s.seq]? = some m)
    (hl : s.seq + 1 = (program s.cfg c s.cur.addr s.cur.data).length) : Settled ((s.micro m).finish c) := by
  obtain ⟨s0, i, hs0, hp, rfl, hprog, -, hmicro⟩ := midCommand_micro h hc hm
  rw [hmicro, hl, hprog, List.take_length]
  exact settled_completed hs0 hp

end midCommand

/-! ### The invariant -/

section inOrder
variable {s t : State}

theorem settled_of_inOrder (h : InOrder s) (hb : s.busy = false) : Settled s := by
  simpa only [InOrder, hb, Bool.false_eq_true, if_false] using h

theorem midCommand_of_inOrder (h : InOrder s) (hb : s.busy = true) : MidCommand s := by
  simpa only [InOrder, hb, if_true] using h

theorem inOrder_of_settled (h : Settled s) : InOrder s := by
  have hb : s.busy = false := h.1
  simpa only [InOrder, hb, Bool.false_eq_true, if_false] using h

theorem inOrder_of_midCommand (hb : s.busy = true) (h : MidCommand s) : InOrder s := by
  rw [InOrder, if_pos hb]
  exact h

/-- The invariant is inductive: each kind of step keeps it. -/
theorem stepTo_keeps_inOrder (h : InOrder s) (hst : StepTo s t) : InOrder t := by
  cases hst with
  | reset hh => exact inOrder_of_settled (settled_applyReset _)
  | nothing hb hh => exact inOrder_of_settled (settled_idleStep (settled_dropMove (settled_of_inOrder h hb)))
  | command hb hh hd hp =>
    exact inOrder_of_settled (settled_completed (settled_dropMove (settled_of_inOrder h hb)) hp)
  | interrupted hb hh hd hp => exact inOrder_of_settled (settled_applyReset _)
  | event hb hh hc hm hl =>
    exact inOrder_of_midCommand (by simp [hb]) (midCommand_event (midCommand_of_inOrder h hb) hc hm hl)
  | lastEvent hb hh hc hm hl =>
    exact inOrder_of_settled (midCommand_lastEvent (midCommand_of_inOrder h hb) hc hm hl)

/-- Whether a READ completes in a step decides `rsp_valid` after it, kind by kind (R35). -/
theorem stepTo_rspValid_iff (h : InOrder s) (hst : StepTo s t) : t.rspValid = true ↔ ReadCompletesIn s := by
  cases hst with
  | reset hh =>
    have hno : ¬ ReadCompletesIn s := by
      rintro (⟨-, w, rest, a, d, hw, -⟩ | ⟨-, hne, -⟩)
      · simp [hw] at hh
      · exact hne hh
    simpa using hno
  | nothing hb hh =>
    have hno : ¬ ReadCompletesIn s := by
      rintro (⟨-, w, rest, a, d, hw, -⟩ | ⟨hb', -⟩)
      · simp [hw] at hh
      · simp [hb] at hb'
    simpa using hno
  | @command w i rest hb hh hd hp =>
    have hread : i.cmd = .read ↔ ∃ a d, i = .read a d := by cases i <;> simp [Instr.cmd]
    simp [ReadCompletesIn, hb, hh, hd, hread]
  | interrupted hb hh hd hp => simp [ReadCompletesIn, State.cutShort, hb, hh]
  | @event c m hb hh hc hm hl =>
    have hno : ¬ ReadCompletesIn s := by
      rintro (⟨hb', -⟩ | ⟨-, -, hr, hlast⟩)
      · simp [hb] at hb'
      · obtain rfl : c = .read := Option.some.inj (hc.symm.trans hr)
        exact hl hlast
    simpa [midCommand_rspValid (midCommand_of_inOrder h hb)] using hno
  | @lastEvent c m hb hh hc hm hl =>
    have hquiet : (s.micro m).rspValid = false := by simpa using midCommand_rspValid (midCommand_of_inOrder h hb)
    rw [finish_rspValid, hquiet]
    constructor
    · rintro (hv | rfl)
      · cases hv
      · exact .inr ⟨hb, hh, hc, hl⟩
    · rintro (⟨hb', -⟩ | ⟨-, -, hr, -⟩)
      · simp [hb] at hb'
      · exact .inr (Option.some.inj (hc.symm.trans hr))

end inOrder

/-- Settles O46: `InOrder` is inductive, and of an idle engine it says the lines. -/
theorem everyStepKeepsInvariant : Obligations.EveryStepKeepsInvariant := by
  intro s t hs ht
  have hin : InOrder t := stepTo_keeps_inOrder hs (stepTo_of_step ht)
  refine ⟨hin, fun ho hb => ?_, fun ho hb => ?_⟩
  · obtain ⟨-, hlines, -⟩ := settled_of_inOrder hin hb
    simpa [IdleLines, ho] using hlines
  · obtain ⟨-, hlines, -⟩ := settled_of_inOrder hin hb
    simpa [IdleLines, ho] using hlines

/-- Settles O52, by the kinds of step. -/
theorem responseValidExactlyAfterRead : Obligations.ResponseValidExactlyAfterRead :=
  ⟨rfl, fun _ _ hs ht => stepTo_rspValid_iff hs (stepTo_of_step ht)⟩

/-- Settles O10: R39's table, at the default parameters. -/
theorem resetStateValues : Obligations.ResetStateValues := atReset_reset_with_cfg Params.standard

end Sys2Proof.Machine
end

section
/-! What a Transfer and a transaction put on the wire and collect from it (spec/20_memory.md R44, R57,
spec/41_bit_transfer.md R84 to R88), and the read after a write. -/

namespace Sys2Proof.Machine

/-! ### The device's input and the bits of a word -/

/-- A run that used `k` samples leaves the levels from the `k`-th on (R24). -/
theorem diAt_of_consumed {s t : State} {k : Nat} (hdi : t.di = s.di.drop k) (hs : t.samples = s.samples + k) (j : Nat) :
    t.diAt j = s.diAt (k + j) := by
  simp [State.diAt, hdi, hs, List.getD_eq_getElem?_getD, Nat.add_assoc]

/-- The first sample of a sum has the highest weight (R84). -/
theorem sampleSum_succ (s : State) (skip n : Nat) :
    sampleSum s skip (n + 1) = (s.diAt skip).toNat * 2 ^ n + sampleSum s (skip + 1) n := by
  rw [sampleSum, Finset.sum_range_succ', Nat.add_comm, sampleSum]
  congr 1
  refine Finset.sum_congr rfl fun j _ => ?_
  rw [Nat.add_right_comm, Nat.add_assoc, show n + 1 - 1 - (j + 1) = n - 1 - j by omega]

theorem sampleSum_of_shift {s t : State} {k : Nat} (h : ∀ j, t.diAt j = s.diAt (k + j)) (skip n : Nat) :
    sampleSum t skip n = sampleSum s (k + skip) n := by
  simp only [sampleSum, h, Nat.add_assoc]

/-- Once the first sample is used, the others are the next ones (R24). -/
theorem sampleSum_of_first_consumed {s t : State} (hdi : t.di = s.di.tail) (hs : t.samples = s.samples + 1) (n : Nat) :
    sampleSum s 0 (n + 1) = (s.diAt 0).toNat * 2 ^ n + sampleSum t 0 n := by
  rw [sampleSum_succ, sampleSum_of_shift (diAt_of_consumed (k := 1) (by simpa using hdi) hs)]

theorem sampleSum_lt (s : State) (skip n : Nat) : sampleSum s skip n < 2 ^ n := by
  induction n generalizing skip with
  | zero => simp [sampleSum]
  | succ n ih =>
    have hbit : (s.diAt skip).toNat * 2 ^ n ≤ 1 * 2 ^ n := Nat.mul_le_mul_right _ (Bool.toNat_le _)
    calc sampleSum s skip (n + 1) = (s.diAt skip).toNat * 2 ^ n + sampleSum s (skip + 1) n := sampleSum_succ s skip n
      _ < 1 * 2 ^ n + 2 ^ n := Nat.add_lt_add_of_le_of_lt hbit (ih _)
      _ = 2 ^ (n + 1) := by ring

/-- Samples that are a word's low bits, most significant first, add up to those bits (R44). -/
theorem sampleSum_of_testBit {s : State} {skip n : Nat} {v : Word}
    (h : ∀ m, m < n → s.diAt (skip + m) = v.testBit (n - 1 - m)) : sampleSum s skip n = v % 2 ^ n := by
  induction n generalizing skip with
  | zero => simp [sampleSum, Nat.mod_one]
  | succ n ih =>
    have hfirst : s.diAt skip = v.testBit n := h 0 (Nat.succ_pos n)
    have hrest : sampleSum s (skip + 1) n = v % 2 ^ n := ih fun m hm => by
      have hnext := h (m + 1) (Nat.succ_lt_succ hm)
      rwa [show skip + (m + 1) = skip + 1 + m by omega, show n + 1 - 1 - (m + 1) = n - 1 - m by omega] at hnext
    rw [sampleSum_succ, hfirst, hrest, Nat.mod_pow_succ, ← Nat.toNat_testBit, Nat.mul_comm, Nat.add_comm]

@[simp] theorem msbBits_length (n : Nat) (v : Word) : (msbBits n v).length = n := by
  induction n with
  | zero => rfl
  | succ n ih => simp [msbBits, ih]

/-- R44: the `m`-th bit sent is bit `n-1-m`. -/
theorem msbBits_getElem? (v : Word) {n m : Nat} (hm : m < n) : (msbBits n v)[m]? = some (v.testBit (n - 1 - m)) := by
  induction n generalizing m with
  | zero => cases hm
  | succ n ih =>
    cases m with
    | zero => rfl
    | succ m =>
      rw [msbBits, List.getElem?_cons_succ, ih (Nat.lt_of_succ_lt_succ hm),
        show n + 1 - 1 - (m + 1) = n - 1 - m by omega]

theorem msbBits_of_const {n : Nat} {v : Word} {b : Bool} (h : ∀ j, j < n → v.testBit j = b) :
    msbBits n v = List.replicate n b := by
  induction n with
  | zero => rfl
  | succ n ih => rw [msbBits, h n (Nat.lt_succ_self n), ih fun j hj => h j (Nat.lt_succ_of_lt hj)]; rfl

theorem testBit_ones {n j : Nat} (hj : j < n) : (ones n).testBit j = true := by
  simp [ones, Nat.testBit_two_pow_sub_one, hj]

@[simp] theorem msbBits_ones (n : Nat) : msbBits n (ones n) = List.replicate n true :=
  msbBits_of_const fun _ => testBit_ones

@[simp] theorem msbBits_zero (n : Nat) : msbBits n 0 = List.replicate n false :=
  msbBits_of_const fun j _ => Nat.zero_testBit j

/-! ### A Transfer -/

section transfer
variable (s : State) (p : Params)

@[simp] theorem micro_eventTrace (m : Micro) : (s.micro m).eventTrace = s.eventTrace ++ [m.event s] := by
  simp [State.eventTrace, micro_trace]

@[simp] theorem laterCells_di (n : Nat) : (s.runMicros (laterCells p n)).di = s.di.drop n := by
  induction n generalizing s with
  | zero => simp [laterCells, runMicros_cons]
  | succ n ih => simp [laterCells, runMicros_cons, runMicros_append, ih]

@[simp] theorem laterCells_samples (n : Nat) : (s.runMicros (laterCells p n)).samples = s.samples + n := by
  induction n generalizing s with
  | zero => simp [laterCells, runMicros_cons]
  | succ n ih => simp [laterCells, runMicros_cons, runMicros_append, ih, Nat.add_assoc, Nat.add_comm 1]

@[simp] theorem transfer_di (value : Word) (n : Nat) : (s.runMicros (transfer p value n)).di = s.di.drop n := by
  cases n with
  | zero => simp [transfer, runMicros_cons]
  | succ n => simp [transfer, runMicros_cons, runMicros_append]

@[simp] theorem transfer_samples (value : Word) (n : Nat) :
    (s.runMicros (transfer p value n)).samples = s.samples + n := by
  cases n with
  | zero => simp [transfer, runMicros_cons]
  | succ n => simp [transfer, runMicros_cons, runMicros_append, Nat.add_assoc, Nat.add_comm 1]

@[simp] theorem beginTransaction_di (opw : Word) : (s.runMicros (beginTransaction p opw)).di = s.di.drop 3 := by
  simp [beginTransaction, prePulse, runMicros_cons]

@[simp] theorem beginTransaction_samples (opw : Word) :
    (s.runMicros (beginTransaction p opw)).samples = s.samples + 3 := by
  simp [beginTransaction, prePulse, runMicros_cons]

/-- The first cell's bit position fits `bi` (R31). -/
theorem trunc_biWidth {g : Geometry} {n : Nat} (hn : n + 1 ≤ g.wmax) : trunc g.biWidth n = n :=
  trunc_of_lt _ _ (Nat.lt_of_lt_of_le hn (Nat.lt_log2_self (n := g.wmax)).le)

/-- With `n` cells to go `bi` is `n`: they put the low `n` bits of `tx` on the wire (R86). -/
theorem laterCells_eventTrace {n : Nat} (hbi : s.bi = n) :
    (s.runMicros (laterCells p n)).eventTrace = s.eventTrace ++ transferEvents p s.tx n := by
  induction n generalizing s with
  | zero => simp [laterCells, runMicros_cons, transferEvents, Micro.event]
  | succ n ih =>
    simp [laterCells, runMicros_cons, runMicros_append, ih, hbi, transferEvents, cellEvents,
      cellTail_eventTrace, Micro.event]

@[simp] theorem transferEvents_trunc {m n : Nat} (value : Word) (h : n ≤ m) :
    transferEvents p (trunc m value) n = transferEvents p value n := by
  induction n with
  | zero => rfl
  | succ n ih => rw [transferEvents, transferEvents, testBit_trunc m value n h, ih (Nat.le_of_succ_le h)]

/-- R86: a Transfer performs its cells. -/
@[simp] theorem transfer_eventTrace (value : Word) {n : Nat} (hn : n ≤ s.cfg.geom.wmax) :
    (s.runMicros (transfer p value n)).eventTrace = s.eventTrace ++ transferEvents p value n := by
  cases n with
  | zero => simp [transfer, runMicros_cons, transferEvents, Micro.event]
  | succ n =>
    simp [transfer, runMicros_cons, runMicros_append, laterCells_eventTrace, trunc_biWidth hn, transferEvents,
      cellEvents, cellTail_eventTrace, Micro.event, testBit_trunc _ value n hn, Nat.le_of_succ_le hn]

/-- A sample lands below the samples before it: `n` places of the accumulator stay free for those to come (R84). -/
theorem capture_below {w n r : Nat} (b : Bool) (hr : (r + 1) * 2 ^ (n + 1) ≤ 2 ^ w) :
    trunc w (r * 2 ^ (n + 1) ||| b.toNat <<< n) = (2 * r + b.toNat) * 2 ^ n ∧
      (2 * r + b.toNat + 1) * 2 ^ n ≤ 2 ^ w := by
  have hb : b.toNat ≤ 1 := Bool.toNat_le b
  have hor : r * 2 ^ (n + 1) ||| b.toNat <<< n = (2 * r + b.toNat) * 2 ^ n := by
    rw [show r * 2 ^ (n + 1) = (r <<< 1) <<< n by simp [Nat.shiftLeft_eq]; ring, ← Nat.shiftLeft_or_distrib,
      ← Nat.shiftLeft_add_eq_or_of_lt (show b.toNat < 2 ^ 1 by omega)]
    simp [Nat.shiftLeft_eq, Nat.mul_comm]
  have hfree : (2 * r + b.toNat + 1) * 2 ^ n ≤ 2 ^ w := calc
    (2 * r + b.toNat + 1) * 2 ^ n ≤ (2 * r + 2) * 2 ^ n := Nat.mul_le_mul_right _ (by omega)
    _ = (r + 1) * 2 ^ (n + 1) := by ring
    _ ≤ 2 ^ w := hr
  refine ⟨?_, hfree⟩
  rw [hor, trunc_of_lt]
  exact Nat.lt_of_lt_of_le (Nat.mul_lt_mul_of_pos_right (Nat.lt_succ_self _) (Nat.two_pow_pos n)) hfree

/-- With `n` cells to go the samples so far, `r`, stand above `n` free places, which the cells fill (R84). -/
theorem laterCells_rx {n r : Nat} (hbi : s.bi = n) (hrx : s.rx = r * 2 ^ n)
    (hr : (r + 1) * 2 ^ n ≤ 2 ^ s.cfg.geom.wmax) :
    (s.runMicros (laterCells p n)).rx = r * 2 ^ n + sampleSum s 0 n := by
  induction n generalizing s r with
  | zero => simp [laterCells, runMicros_cons, hrx, sampleSum]
  | succ n ih =>
    obtain ⟨hcap, hfree⟩ := capture_below (s.diAt 0) hr
    rw [laterCells, runMicros_cons, runMicros_append, ih (r := 2 * r + (s.diAt 0).toNat) _ (by simp [hbi])
      (by simp [hrx, hbi, hcap]) (by simpa using hfree),
      sampleSum_of_first_consumed (t := (s.micro .nextSample).runMicros (cellTail p)) (by simp) (by simp)]
    ring

/-- R88: a Transfer returns its samples, the first the most significant. -/
theorem transfer_rx (value : Word) {n : Nat} (hn : n ≤ s.cfg.geom.wmax) :
    (s.runMicros (transfer p value n)).rx = sampleSum s 0 n := by
  cases n with
  | zero => simp [transfer, runMicros_cons, sampleSum]
  | succ n =>
    have hr : (0 + 1) * 2 ^ (n + 1) ≤ 2 ^ s.cfg.geom.wmax := by simpa using Nat.pow_le_pow_right Nat.two_pos hn
    obtain ⟨hcap, hfree⟩ := capture_below (s.diAt 0) hr
    rw [transfer, runMicros_cons, runMicros_append, laterCells_rx (r := 2 * 0 + (s.diAt 0).toNat) _ _
      (by simp [trunc_biWidth hn]) (by simpa [trunc_biWidth hn] using hcap) (by simpa using hfree),
      sampleSum_of_first_consumed (t := (s.micro (.firstSample value (n + 1))).runMicros (cellTail p)) (by simp)
        (by simp)]
    simp

end transfer

/-! ### The events of a command -/

section events
variable (s : State) (p : Params)

/-- A Transfer of one repeated bit (R60). -/
theorem transferEvents_of_const {n : Nat} {v : Word} {b : Bool} (h : ∀ j, j < n → v.testBit j = b) :
    transferEvents p v n = (List.replicate n (cellEvents p b)).flatten ++ [.set .dout false] := by
  induction n with
  | zero => rfl
  | succ n ih =>
    rw [transferEvents, h n (Nat.lt_succ_self n), ih fun j hj => h j (Nat.lt_succ_of_lt hj)]
    simp [List.replicate_succ]

/-- R107: EWEN's payload is a Transfer of ones. -/
theorem ewenEvents_eq : ewenEvents p =
    beginEvents p false false ++ transferEvents p (ones p.geom.aw) p.geom.aw ++ [.set .cs false] := by
  rw [transferEvents_of_const p fun _ => testBit_ones]
  simp [ewenEvents]

/-- R109: EWDS's payload is a Transfer of zeros. -/
theorem ewdsEvents_eq : ewdsEvents p =
    beginEvents p false false ++ transferEvents p 0 p.geom.aw ++ [.set .cs false] := by
  rw [transferEvents_of_const p fun j _ => Nat.zero_testBit j]
  simp [ewdsEvents]

/-! R91: every count a command hands to Transfer fits the shift registers. -/

@[simp] theorem three_le_wmax (g : Geometry) : 3 ≤ g.wmax := count_le_wmax g (by simp)
@[simp] theorem aw_le_wmax (g : Geometry) : g.aw ≤ g.wmax := count_le_wmax g (by simp)
@[simp] theorem ps_le_wmax (g : Geometry) : g.ps ≤ g.wmax := count_le_wmax g (by simp)
@[simp] theorem ps_lt_wmax (g : Geometry) : g.ps < g.wmax := count_le_wmax g (by simp)

/-- R66: the preamble is the start bit and the opcode's two bits. -/
theorem transferEvents_preamble {opw : Word} {o1 o0 : Bool} (h1 : opw.testBit 1 = o1) (h0 : opw.testBit 0 = o0) :
    transferEvents p (preambleValue opw) 3 =
      cellEvents p true ++ cellEvents p o1 ++ cellEvents p o0 ++ [.set .dout false] := by
  have hstart : Nat.testBit 4 2 = true := rfl
  have hmid : Nat.testBit 4 1 = false := rfl
  simp [transferEvents, preambleValue, hstart, hmid, ← h1, ← h0]

theorem beginTransaction_eventTrace {opw : Word} {o1 o0 : Bool} (h1 : opw.testBit 1 = o1) (h0 : opw.testBit 0 = o0) :
    (s.runMicros (beginTransaction p opw)).eventTrace = s.eventTrace ++ beginEvents p o1 o0 := by
  simp [beginTransaction, prePulse, runMicros_cons, transferEvents_preamble p h1 h0, beginEvents,
    prePulseEvents, Micro.event]

@[simp] theorem beginTransaction_wireRead_eventTrace :
    (s.runMicros (beginTransaction p wireRead)).eventTrace = s.eventTrace ++ beginEvents p true false :=
  beginTransaction_eventTrace s p rfl rfl

@[simp] theorem beginTransaction_wireWrite_eventTrace :
    (s.runMicros (beginTransaction p wireWrite)).eventTrace = s.eventTrace ++ beginEvents p false true :=
  beginTransaction_eventTrace s p rfl rfl

@[simp] theorem beginTransaction_wireControl_eventTrace :
    (s.runMicros (beginTransaction p wireControl)).eventTrace = s.eventTrace ++ beginEvents p false false :=
  beginTransaction_eventTrace s p rfl rfl

/-- A command's list performs `E(cmd)` (R30). -/
theorem programOf_eventTrace (i : Instr) :
    (s.runMicros (programOf s.cfg i)).eventTrace = s.eventTrace ++ eventsOf s.cfg i := by
  cases i with
  | openCmd a d =>
    simp [programOf, Instr.cmd, program, openProgram, runMicros_cons, eventsOf, openEvents, Micro.event]
  | closeCmd a d =>
    simp [programOf, Instr.cmd, program, closeProgram, runMicros_cons, eventsOf, closeEvents, Micro.event]
  | read a d =>
    simp [programOf, Instr.cmd, Instr.addr, program, readProgram, endTransaction, runMicros_append, runMicros_cons,
      addrOperand, readWindowValue, readWindowBits, eventsOf, readEvents, Micro.event]
  | write a d =>
    simp [programOf, Instr.cmd, Instr.addr, Instr.data, program, writeProgram, endTransaction, runMicros_append,
      runMicros_cons, addrOperand, dataOperand, Params.writeWait, eventsOf, writeEvents, Micro.event]
  | ewen a d =>
    simp [programOf, Instr.cmd, program, ewenProgram, endTransaction, runMicros_append, runMicros_cons, enablePayload,
      eventsOf, ewenEvents_eq, Micro.event]
  | ewds a d =>
    simp [programOf, Instr.cmd, program, ewdsProgram, endTransaction, runMicros_append, runMicros_cons, disablePayload,
      eventsOf, ewdsEvents_eq, Micro.event]

theorem completed_eventTrace (i : Instr) : (s.completed i).eventTrace = s.eventTrace ++ eventsOf s.cfg i := by
  have hfinish (u : State) : (u.finish i.cmd).eventTrace = u.eventTrace := by cases i.cmd <;> rfl
  exact (hfinish _).trans (programOf_eventTrace (s.accept i) i)

end events

/-! ### The frame of a transaction -/

section frame
variable (v : Levels) (p : Params)

theorem levelsAfter_append (es fs : List Event) : levelsAfter v (es ++ fs) = levelsAfter (levelsAfter v es) fs :=
  List.foldl_append

theorem clkRises_append (es fs : List Event) :
    clkRises v (es ++ fs) = clkRises v es ++ clkRises (levelsAfter v es) fs := by
  induction es generalizing v with
  | nil => rfl
  | cons e es ih =>
    rw [List.cons_append, clkRises, clkRises, ih]
    split <;> rfl

/-- R85: a Transfer leaves CLK and DO low, CS and PE as they were. -/
@[simp] theorem levelsAfter_transferEvents (value : Word) (n : Nat) (hclk : v.clk = false) :
    levelsAfter v (transferEvents p value n) = ⟨v.cs, false, false, v.pe⟩ := by
  induction n generalizing v with
  | zero => simp [transferEvents, levelsAfter, Levels.after, Levels.put, hclk]
  | succ n ih =>
    have hcell : levelsAfter v (cellEvents p (value.testBit n)) = ⟨v.cs, false, value.testBit n, v.pe⟩ := rfl
    rw [transferEvents, levelsAfter_append, hcell, ih _ rfl]

/-- R86: a Transfer raises CLK once a bit, with the bit on DO. -/
@[simp] theorem clkRises_transferEvents (value : Word) (n : Nat) (hclk : v.clk = false) :
    clkRises v (transferEvents p value n) = (msbBits n value).map (⟨v.cs, true, ·, v.pe⟩) := by
  induction n generalizing v with
  | zero => simp [transferEvents, clkRises, Levels.after, Levels.put, msbBits, hclk]
  | succ n ih =>
    have hcell : levelsAfter v (cellEvents p (value.testBit n)) = ⟨v.cs, false, value.testBit n, v.pe⟩ := rfl
    rw [transferEvents, clkRises_append, hcell, ih _ rfl]
    simp [cellEvents, clkRises, Levels.after, Levels.put, msbBits, hclk]

@[simp] theorem levelsAfter_beginEvents (o1 o0 : Bool) :
    levelsAfter v (beginEvents p o1 o0) = ⟨true, false, false, v.pe⟩ := rfl

/-- R93, R94: the pre-pulse raises CLK with CS low, the preamble's three cells raise it with CS high. -/
@[simp] theorem clkRises_beginEvents (o1 o0 : Bool) (hclk : v.clk = false) :
    clkRises v (beginEvents p o1 o0) =
      [⟨false, true, false, v.pe⟩, ⟨true, true, true, v.pe⟩, ⟨true, true, o1, v.pe⟩, ⟨true, true, o0, v.pe⟩] := by
  simp [beginEvents, prePulseEvents, cellEvents, clkRises, Levels.after, Levels.put, hclk]

theorem frameBits_append (es fs : List Event) :
    frameBits v (es ++ fs) = frameBits v es ++ frameBits (levelsAfter v es) fs := by
  simp [frameBits, clkRises_append]

@[simp] theorem frameBits_transferEvents (value : Word) (n : Nat) (hcs : v.cs = true) (hclk : v.clk = false) :
    frameBits v (transferEvents p value n) = msbBits n value := by
  simp [frameBits, hcs, hclk, List.filter_map, Function.comp_def]

/-- The pre-pulse is no part of the frame (R60). -/
@[simp] theorem frameBits_beginEvents (o1 o0 : Bool) (hclk : v.clk = false) :
    frameBits v (beginEvents p o1 o0) = [true, o1, o0] := by
  simp [frameBits, hclk]

/-- CS's fall, and the write wait after it, end the frame (R60, R97). -/
@[simp] theorem frameBits_set_cs_low (es : List Event) :
    frameBits v (.set .cs false :: es) = frameBits { v with cs := false } es := by
  cases hclk : v.clk <;> simp [frameBits, clkRises, Levels.after, Levels.put, hclk]

@[simp] theorem frameBits_wait (t : Nat) (es : List Event) : frameBits v (.wait t :: es) = frameBits v es := by
  cases hclk : v.clk <;> simp [frameBits, clkRises, Levels.after, hclk]

@[simp] theorem frameBits_nil : frameBits v [] = [] := rfl

/-- R60: from CLK low, a transaction's frame is its fields. -/
theorem frameBits_eventsOf {i : Instr} (hc : i.cmd.isTransaction = true) (hclk : v.clk = false) :
    frameBits v (eventsOf p i) = wireFrame p i := by
  cases i with
  | openCmd a d => cases hc
  | closeCmd a d => cases hc
  | read a d => simp [eventsOf, readEvents, wireFrame, wireFields, frameBits_append, hclk]
  | write a d => simp [eventsOf, writeEvents, wireFrame, wireFields, frameBits_append, hclk]
  | ewen a d => simp [eventsOf, ewenEvents_eq, wireFrame, wireFields, frameBits_append, hclk]
  | ewds a d => simp [eventsOf, ewdsEvents_eq, wireFrame, wireFields, frameBits_append, hclk]

theorem wireFrame_read_addr (a d : Word) : ((wireFrame p (.read a d)).drop 3).take p.geom.aw = msbBits p.geom.aw a := by
  simp [wireFrame, wireFields]

theorem wireFrame_write_addr (a d : Word) :
    ((wireFrame p (.write a d)).drop 3).take p.geom.aw = msbBits p.geom.aw a := by
  simp [wireFrame, wireFields]

theorem wireFrame_write_data (a d : Word) :
    (wireFrame p (.write a d)).drop (3 + p.geom.aw) = msbBits p.geom.ps d := by
  simp [wireFrame, wireFields, Nat.add_comm 3]

/-- The frame of a transaction as it stands at the end of the engine's trace. -/
theorem frameBits_completed {s : State} {i : Instr} (hc : i.cmd.isTransaction = true) (hclk : s.lvl.clk = false) :
    frameBits s.lvl ((s.completed i).eventTrace.drop s.eventTrace.length) = wireFrame s.cfg i := by
  rw [completed_eventTrace, List.drop_left, frameBits_eventsOf _ _ hc hclk]

end frame

/-! ### What READ returns -/

/-- R100, R102: READ's window is its last Transfer, after the preamble's and the address's samples. -/
theorem readProgram_rx (s : State) (a : Word) :
    (s.runMicros (readProgram s.cfg a)).rx = sampleSum s (3 + s.cfg.geom.aw) (s.cfg.geom.ps + 1) := by
  simp only [readProgram, endTransaction, runMicros_append, runMicros_cons, runMicros_nil, micro_set_rx]
  rw [transfer_rx _ _ _ (by simp [readWindowBits]), sampleSum_of_shift (s := s) (k := 3 + s.cfg.geom.aw)]
  · rfl
  · exact diAt_of_consumed (by simp) (by simp [Nat.add_assoc])

theorem completed_read_results (s : State) (a d : Word) :
    (s.completed (.read a d)).rraw = sampleSum s (3 + s.cfg.geom.aw) (s.cfg.geom.ps + 1) ∧
      (s.completed (.read a d)).rdata = sampleSum s (3 + s.cfg.geom.aw) (s.cfg.geom.ps + 1) % 2 ^ s.cfg.geom.ps := by
  have hrx : ((s.accept (.read a d)).runMicros (programOf s.cfg (.read a d))).rx =
      sampleSum s (3 + s.cfg.geom.aw) (s.cfg.geom.ps + 1) := readProgram_rx (s.accept (.read a d)) a
  constructor
  · rw [← trunc_of_lt _ _ (sampleSum_lt s (3 + s.cfg.geom.aw) (s.cfg.geom.ps + 1)), ← hrx]
    simp [State.completed, State.finish, Instr.cmd]
  · rw [← hrx]
    simp [State.completed, State.finish, Instr.cmd, trunc]

/-- R57's device: a window of a 0 and then a word's low bits makes READ return that word. -/
theorem completed_read_of_window {s : State} {v : Word} (a d : Word) (hzero : s.diAt (3 + s.cfg.geom.aw) = false)
    (hbits : ∀ m, m < s.cfg.geom.ps → s.diAt (3 + s.cfg.geom.aw + 1 + m) = v.testBit (s.cfg.geom.ps - 1 - m)) :
    (s.completed (.read a d)).rdata = v % 2 ^ s.cfg.geom.ps ∧
      (s.completed (.read a d)).rraw = v % 2 ^ s.cfg.geom.ps := by
  obtain ⟨hrraw, hrdata⟩ := completed_read_results s a d
  have hwindow : sampleSum s (3 + s.cfg.geom.aw) (s.cfg.geom.ps + 1) = v % 2 ^ s.cfg.geom.ps := by
    rw [sampleSum_succ, hzero, sampleSum_of_testBit hbits]
    simp
  exact ⟨by rw [hrdata, hwindow, Nat.mod_mod], hrraw.trans hwindow⟩

@[simp] theorem completed_cfg (s : State) (i : Instr) : (s.completed i).cfg = s.cfg := by
  simp [State.completed]

/-- R60: a transaction leaves CLK low. -/
theorem completed_clk {s : State} {i : Instr} (hc : i.cmd.isTransaction = true) : (s.completed i).lvl.clk = false := by
  simp [State.completed, programOf, transaction_lines, hc]

/-- Settles O57: the bits on the wire are the frames (`frameBits_completed`), and a READ whose window shows the WRITE's
data bits returns them (`completed_read_of_window`). -/
theorem readAfterWriteReturnsTheValue : Obligations.ReadAfterWriteReturnsTheValue := by
  intro s a v x hb ho hlines
  obtain ⟨-, hlvl⟩ := hlines
  have hclk : s.lvl.clk = false := by rw [hlvl]
  have hw : Permitted s (.write a v) := ⟨hb, by simp [ho, Instr.cmd]⟩
  have hr : Permitted (s.completed (.write a v)) (.read a x) :=
    ⟨completed_busy _ _, by simp [completed_isOpen hw, Instr.cmd]⟩
  refine ⟨_, _, exec_of_permitted hw, exec_of_permitted hr, ?_⟩
  rw [frameBits_completed rfl hclk, frameBits_completed rfl (completed_clk rfl), completed_cfg]
  refine ⟨?_, fun hzero hbits => ?_⟩
  · rw [wireFrame_read_addr, wireFrame_write_addr]
  · rw [wireFrame_write_data] at hbits
    have hwindow (m : Nat) (hm : m < s.cfg.geom.ps) :
        (s.completed (.write a v)).diAt (3 + s.cfg.geom.aw + 1 + m) = v.testBit (s.cfg.geom.ps - 1 - m) :=
      Option.some.inj ((hbits m hm).trans (msbBits_getElem? v hm))
    simpa using completed_read_of_window (s := s.completed (.write a v)) (v := v) a x (by simpa using hzero)
      (by simpa using hwindow)

end Sys2Proof.Machine
end

section
/-! Which presented words are refused and which run (spec/30_encoding.md R64, R65), and the frames of R60. -/

namespace Sys2Proof

/-! ### What the command code says of a word -/

/-- The two reserved codes (R64, R65). -/
theorem Cmd.ofCode_eq_none_iff (op : BitVec 3) : Cmd.ofCode op = none ↔ op.toNat = 0 ∨ op.toNat = 3 := by
  revert op; decide

theorem Cmd.ofCode_eq_openCmd_iff (op : BitVec 3) : Cmd.ofCode op = some .openCmd ↔ op.toNat = 1 := by
  revert op; decide

/-- R63: the command code of a word is its low three bits. -/
theorem toNat_opField (w : Word) : (BitVec.ofNat 3 w).toNat = w % 8 := BitVec.toNat_ofNat w 3

theorem decode_of_reserved (g : Geometry) {w : Word} (h : w % 8 = 0 ∨ w % 8 = 3) :
    decode g w = .error (.reservedCommand (BitVec.ofNat 3 w)) := by
  rw [decode, (Cmd.ofCode_eq_none_iff _).mpr (by rwa [toNat_opField])]

/-- A word whose code is not reserved decodes to a command, and OPEN has the code 1 alone (R64). -/
theorem decode_of_not_reserved (g : Geometry) {w : Word} (h : ¬ (w % 8 = 0 ∨ w % 8 = 3)) :
    ∃ i, decode g w = .ok i ∧ (i.cmd = .openCmd ↔ w % 8 = 1) := by
  rw [← toNat_opField] at h ⊢
  cases hc : Cmd.ofCode (BitVec.ofNat 3 w) with
  | none => exact absurd ((Cmd.ofCode_eq_none_iff _).mp hc) h
  | some c =>
    refine ⟨c.instr (slice w 3 g.aw) (slice w (3 + g.aw) g.ps), by rw [decode, hc], ?_⟩
    rw [Cmd.instr_cmd, ← Cmd.ofCode_eq_openCmd_iff, hc, Option.some.injEq]

end Sys2Proof

namespace Sys2Proof.Machine

/-! ### The step of an idle engine to which a word is presented -/

section presented
variable {s : State} {w : Word} {rest : List HostMove} (hb : s.busy = false) (hh : s.host = .command w :: rest)
include hb hh

theorem step_of_command : step s = s.dropMove.present w := by
  simp [step, hb, State.hostStep, hh]

theorem step_of_reserved (h : w % 8 = 0 ∨ w % 8 = 3) : step s = .refused .reservedCommand := by
  rw [step_of_command hb hh]
  exact (present_refused_iff w).mpr (.inl ⟨⟨_, decode_of_reserved _ h⟩, rfl⟩)

/-- A word that is no reserved code's runs its command, which is OPEN for the code 1 alone. -/
theorem step_of_not_reserved (h : ¬ (w % 8 = 0 ∨ w % 8 = 3)) :
    ∃ i, step s = exec i s.dropMove ∧ (i.cmd = .openCmd ↔ w % 8 = 1) := by
  obtain ⟨i, hd, hopen⟩ := decode_of_not_reserved s.dropMove.cfg.geom h
  exact ⟨i, by rw [step_of_command hb hh, State.present, hd], hopen⟩

/-- R64: the code 1 runs OPEN. -/
theorem step_of_openCode (h : w % 8 = 1) : ∃ i, step s = exec i s.dropMove ∧ i.cmd = .openCmd := by
  obtain ⟨i, hstep, hopen⟩ := step_of_not_reserved hb hh (by simp [h])
  exact ⟨i, hstep, hopen.mpr h⟩

/-- R64: the code 2 and those of 4 and more run a command that needs `open = 1`. -/
theorem step_of_whenOpenCode (h : w % 8 = 2 ∨ 4 ≤ w % 8) : ∃ i, step s = exec i s.dropMove ∧ i.cmd ≠ .openCmd := by
  have hcode (n : Nat) (hn : n = 2 ∨ 4 ≤ n) : ¬ (n = 0 ∨ n = 3) ∧ n ≠ 1 := by omega
  obtain ⟨hfree, hne⟩ := hcode _ h
  obtain ⟨i, hstep, hopen⟩ := step_of_not_reserved hb hh hfree
  exact ⟨i, hstep, hopen.not.mpr hne⟩

end presented

/-- Settles O7: a reserved code does not decode, and every other word meets the precondition of its command on `open`
(`exec_of_permitted`) or is refused for it (`exec_refused_iff`). -/
theorem presentedWordsRefusedExactly : Obligations.PresentedWordsRefusedExactly := by
  intro s w rest hb hh
  refine ⟨step_of_reserved hb hh, fun hw ho => ?_, fun hw ho => ?_, fun hw ho => ?_, fun hw ho => ?_⟩
  · obtain ⟨i, hstep, hne⟩ := step_of_whenOpenCode hb hh hw
    exact hstep.trans ((exec_refused_iff i).mpr ⟨hb, .inl ⟨hne, ho, rfl⟩⟩)
  · obtain ⟨i, hstep, hopen⟩ := step_of_openCode hb hh hw
    exact hstep.trans ((exec_refused_iff i).mpr ⟨hb, .inr ⟨hopen, ho, rfl⟩⟩)
  · obtain ⟨i, hstep, hne⟩ := step_of_whenOpenCode hb hh hw
    exact ⟨_, hstep.trans (exec_of_permitted ⟨hb, iff_of_true ho hne⟩)⟩
  · obtain ⟨i, hstep, hopen⟩ := step_of_openCode hb hh hw
    exact ⟨_, hstep.trans (exec_of_permitted ⟨hb, by simp [ho, hopen]⟩)⟩

/-! ### The four frames (R60) -/

section frames
variable (p : Params) (a d : Word)

theorem wireFrame_read : wireFrame p (.read a d) =
    [true, true, false] ++ msbBits p.geom.aw a ++ List.replicate (p.geom.ps + 1) false := by
  simp [wireFrame, wireFields]

theorem wireFrame_write : wireFrame p (.write a d) =
    [true, false, true] ++ msbBits p.geom.aw a ++ msbBits p.geom.ps d := by
  simp [wireFrame, wireFields]

theorem wireFrame_ewen : wireFrame p (.ewen a d) = [true, false, false] ++ List.replicate p.geom.aw true := by
  simp [wireFrame, wireFields]

theorem wireFrame_ewds : wireFrame p (.ewds a d) = [true, false, false] ++ List.replicate p.geom.aw false := by
  simp [wireFrame, wireFields]

end frames

/-- Settles O33: the bits on the wire are the frame's fields (`frameBits_eventsOf`), whose widths add up to the lengths. -/
theorem framesOnTheWire : Obligations.FramesOnTheWire := by
  intro p v a d hclk
  have hread := (frameBits_eventsOf v p (i := .read a d) rfl hclk).trans (wireFrame_read p a d)
  have hwrite := (frameBits_eventsOf v p (i := .write a d) rfl hclk).trans (wireFrame_write p a d)
  have hewen := (frameBits_eventsOf v p (i := .ewen a d) rfl hclk).trans (wireFrame_ewen p a d)
  have hewds := (frameBits_eventsOf v p (i := .ewds a d) rfl hclk).trans (wireFrame_ewds p a d)
  refine ⟨hread, hwrite, hewen, hewds, ?_, ?_, ?_, ?_⟩
  · simp +arith [hread]
  · simp +arith [hwrite]
  · simp +arith [hewen]
  · simp +arith [hewds]

end Sys2Proof.Machine
end

section
/-! What OPEN and CLOSE add to the trace (spec/40_lifecycle.md R78, R80). -/

namespace Sys2Proof.Machine

/-- R30, R71: a command accepted under its precondition completes, and performs exactly `E(cmd)`. -/
theorem exec_performs_eventsOf {s : State} {i : Instr} (h : Permitted s i) :
    ∃ t, exec i s = .next t ∧ t.eventTrace = s.eventTrace ++ eventsOf s.cfg i :=
  ⟨s.completed i, exec_of_permitted h, completed_eventTrace s i⟩

/-- R77: OPEN's precondition is a closed idle engine. -/
theorem permitted_openCmd_iff {s : State} {a d : Word} :
    Permitted s (.openCmd a d) ↔ s.busy = false ∧ s.isOpen = false := by
  simp [Permitted, Instr.cmd]

/-- R79: CLOSE's precondition is an open idle engine. -/
theorem permitted_closeCmd_iff {s : State} {a d : Word} :
    Permitted s (.closeCmd a d) ↔ s.busy = false ∧ s.isOpen = true := by
  simp [Permitted, Instr.cmd]

/-- Settles O15: a closed idle engine permits OPEN, whose `E(cmd)` is the ten events of `openEvents`. -/
theorem openPerformsItsTenEvents : Obligations.OpenPerformsItsTenEvents := by
  intro s a d hb ho
  exact exec_performs_eventsOf (permitted_openCmd_iff.mpr ⟨hb, ho⟩)

/-- Settles O17: an open idle engine permits CLOSE, whose `E(cmd)` is the five events of `closeEvents`. -/
theorem closePerformsItsFiveEvents : Obligations.ClosePerformsItsFiveEvents := by
  intro s a d hb ho
  exact exec_performs_eventsOf (permitted_closeCmd_iff.mpr ⟨hb, ho⟩)

end Sys2Proof.Machine
end

section
/-! What a Transfer collects, and that it reads no bit of its value at or above its count (spec/41_bit_transfer.md R85,
R88, R91). -/

namespace Sys2Proof.Machine

section transferResult
variable (s : State) (p : Params)

/-- R85: the first cell already lowers CLK, so a Transfer of at least one bit asks nothing of CLK before it. -/
theorem transfer_succ_lvl (value : Word) (n : Nat) :
    (s.runMicros (transfer p value (n + 1))).lvl = ⟨s.lvl.cs, false, false, s.lvl.pe⟩ := by
  simp [transfer, runMicros_cons, runMicros_append, laterCells_lvl]

/-- The sum R88 writes is the sum of the samples that follow no other. -/
theorem sampleSum_zero_skip (n : Nat) :
    sampleSum s 0 n = ∑ j ∈ Finset.range n, (s.diAt j).toNat * 2 ^ (n - 1 - j) := by
  simp only [sampleSum, Nat.zero_add]

end transferResult

/-- Settles O29: the result is the sum of the samples (`transfer_rx`), which fits its width (`sampleSum_lt`), and the
lines end low (`transfer_succ_lvl`). -/
theorem transferCollectsSamplesMsbFirst : Obligations.TransferCollectsSamplesMsbFirst := by
  intro s value n hpos hn t
  obtain ⟨k, rfl⟩ := Nat.exists_eq_succ_of_ne_zero (Nat.one_le_iff_ne_zero.mp hpos)
  have hrx : t.rx = sampleSum s 0 (k + 1) := transfer_rx s s.cfg value hn
  have hlvl : t.lvl = ⟨s.lvl.cs, false, false, s.lvl.pe⟩ := transfer_succ_lvl s s.cfg value k
  refine ⟨hrx.trans (sampleSum_zero_skip s _), ?_, ?_, ?_, transfer_samples s s.cfg value _⟩
  · exact hrx ▸ sampleSum_lt s 0 (k + 1)
  · rw [hlvl]
  · rw [hlvl]

/-! ### Runs that differ in `tx` alone -/

/-- The state with another value in the shift-out register. -/
def State.withTx (s : State) (x : Word) : State := { s with tx := x }

section withTx
variable (s : State) (p : Params) (x : Word)

@[simp] theorem withTx_tx : (s.withTx x).tx = x := rfl
@[simp] theorem withTx_bi : (s.withTx x).bi = s.bi := rfl
@[simp] theorem withTx_rx : (s.withTx x).rx = s.rx := rfl
@[simp] theorem withTx_trace : (s.withTx x).trace = s.trace := rfl

@[simp] theorem withTx_micro_set (l : OutLine) (v : Bool) :
    (s.withTx x).micro (.set l v) = (s.micro (.set l v)).withTx x := rfl
@[simp] theorem withTx_micro_wait (t : Nat) : (s.withTx x).micro (.wait t) = (s.micro (.wait t)).withTx x := rfl
@[simp] theorem withTx_micro_nextSample : (s.withTx x).micro .nextSample = (s.micro .nextSample).withTx x := rfl

/-- A drive reads one bit of `tx` (R84 step 2). -/
theorem withTx_micro_drive (h : x.testBit s.bi = s.tx.testBit s.bi) :
    (s.withTx x).micro .drive = (s.micro .drive).withTx x := by
  simp only [State.micro, State.perform, withTx_tx, withTx_bi, h]
  rfl

/-- The first SAMPLE loads `tx` and reads nothing of it (R31). -/
theorem micro_firstSample_withTx (u v : Word) (n : Nat) :
    s.micro (.firstSample u n) = (s.micro (.firstSample v n)).withTx (trunc s.cfg.geom.wmax u) := rfl

theorem withTx_cellTail (h : x.testBit s.bi = s.tx.testBit s.bi) :
    (s.withTx x).runMicros (cellTail p) = (s.runMicros (cellTail p)).withTx x := by
  simp [cellTail, runMicros_cons, withTx_micro_drive s x h]

/-- With `n` cells to go `bi` is `n`: they read the low `n` bits of `tx` alone (R84). -/
theorem withTx_laterCells {n : Nat} (hbi : s.bi = n) (h : ∀ j, j < n → x.testBit j = s.tx.testBit j) :
    (s.withTx x).runMicros (laterCells p n) = (s.runMicros (laterCells p n)).withTx x := by
  induction n generalizing s with
  | zero => simp [laterCells, runMicros_cons]
  | succ n ih =>
    have hbit : x.testBit (s.micro .nextSample).bi = (s.micro .nextSample).tx.testBit (s.micro .nextSample).bi := by
      simpa [hbi] using h n (Nat.lt_succ_self n)
    have hrest := ih ((s.micro .nextSample).runMicros (cellTail p)) (by simp [hbi]) fun j hj => by
      simpa using h j (Nat.lt_succ_of_lt hj)
    simp only [laterCells, runMicros_cons, runMicros_append, withTx_micro_nextSample, withTx_cellTail _ p x hbit, hrest]

/-- R91: two values that agree below `n` give runs of their Transfers that differ in `tx` alone. -/
theorem transfer_of_agree_below {u v : Word} {n : Nat} (hn : n ≤ s.cfg.geom.wmax)
    (h : ∀ j, j < n → u.testBit j = v.testBit j) :
    s.runMicros (transfer p u n) = (s.runMicros (transfer p v n)).withTx (trunc s.cfg.geom.wmax u) := by
  cases n with
  | zero => rfl
  | succ n =>
    have hagree (j : Nat) (hj : j < n + 1) :
        (trunc s.cfg.geom.wmax u).testBit j = (trunc s.cfg.geom.wmax v).testBit j := by
      rw [testBit_trunc _ u j (Nat.lt_of_lt_of_le hj hn), testBit_trunc _ v j (Nat.lt_of_lt_of_le hj hn), h j hj]
    have hbi : (s.micro (.firstSample v (n + 1))).bi = n := trunc_biWidth hn
    simp only [transfer, runMicros_cons, runMicros_append]
    rw [micro_firstSample_withTx s u v, withTx_cellTail, withTx_laterCells]
    · simp [hbi]
    · exact fun j hj => by simpa using hagree j (Nat.lt_succ_of_lt hj)
    · rw [hbi]
      exact hagree n (Nat.lt_succ_self n)

end withTx

/-- R91: masking a value by `ones(n)` keeps its bits below `n`. -/
theorem testBit_and_ones (value : Word) {n j : Nat} (hj : j < n) :
    (value &&& ones n).testBit j = value.testBit j := by
  rw [Nat.testBit_and, testBit_ones hj, Bool.and_true]

/-- Settles O32: the counts fit (`count_le_wmax`), and the value and its low `n` bits agree below `n`, so that the two
runs differ in `tx` alone (`transfer_of_agree_below`). -/
theorem transferReadsOnlyItsBits : Obligations.TransferReadsOnlyItsBits := by
  refine ⟨fun g n hn => count_le_wmax g hn, ?_⟩
  intro s value n hn t u
  have hmasked : u = t.withTx (trunc s.cfg.geom.wmax (value &&& ones n)) :=
    transfer_of_agree_below s s.cfg hn fun j hj => testBit_and_ones value hj
  simp [hmasked]

end Sys2Proof.Machine
end

section
/-! The pulses of CLK in a transaction command (spec/42_framer.md R99): the pre-pulse, with CS low, and one for each bit
of the frame, with CS high. -/

namespace Sys2Proof.Machine

/-- A rise of CLK has CS low or high: it is a pre-pulse or a bit of the frame. -/
theorem clkRises_length (v : Levels) (es : List Event) :
    (clkRises v es).length = prePulses v es + (frameBits v es).length := by
  rw [prePulses, frameBits, List.length_map, Nat.add_comm, ← List.length_eq_length_filter_add]

section prePulses
variable (v : Levels) (p : Params)

theorem prePulses_append (es fs : List Event) :
    prePulses v (es ++ fs) = prePulses v es + prePulses (levelsAfter v es) fs := by
  simp [prePulses, clkRises_append]

/-- R93: `BeginTransaction` raises CLK once with CS low. -/
@[simp] theorem prePulses_beginEvents (o1 o0 : Bool) (hclk : v.clk = false) :
    prePulses v (beginEvents p o1 o0) = 1 := by
  simp [prePulses, hclk]

/-- R85: a Transfer leaves CS as it was, so with CS high it adds no pre-pulse. -/
@[simp] theorem prePulses_transferEvents (value : Word) (n : Nat) (hcs : v.cs = true) (hclk : v.clk = false) :
    prePulses v (transferEvents p value n) = 0 := by
  simp [prePulses, hcs, hclk, List.filter_map, Function.comp_def]

/-- R97: CS's fall, and the write wait after it, leave CLK alone. -/
@[simp] theorem prePulses_set_cs (x : Bool) (es : List Event) :
    prePulses v (.set .cs x :: es) = prePulses { v with cs := x } es := by
  cases hclk : v.clk <;> simp [prePulses, clkRises, Levels.after, Levels.put, hclk]

@[simp] theorem prePulses_wait (t : Nat) (es : List Event) : prePulses v (.wait t :: es) = prePulses v es := by
  cases hclk : v.clk <;> simp [prePulses, clkRises, Levels.after, hclk]

@[simp] theorem prePulses_nil : prePulses v [] = 0 := rfl

/-- R99: of a transaction's pulses, the pre-pulse alone has CS low. -/
theorem prePulses_eventsOf {i : Instr} (hc : i.cmd.isTransaction = true) (hclk : v.clk = false) :
    prePulses v (eventsOf p i) = 1 := by
  cases i with
  | openCmd a d => cases hc
  | closeCmd a d => cases hc
  | read a d => simp [eventsOf, readEvents, prePulses_append, hclk]
  | write a d => simp [eventsOf, writeEvents, prePulses_append, hclk]
  | ewen a d => simp [eventsOf, ewenEvents_eq, prePulses_append, hclk]
  | ewds a d => simp [eventsOf, ewdsEvents_eq, prePulses_append, hclk]

/-- R99: the number of CLK pulses is one more than the frame's length. -/
theorem clkRises_eventsOf_length {i : Instr} (hc : i.cmd.isTransaction = true) (hclk : v.clk = false) :
    (clkRises v (eventsOf p i)).length = 1 + (frameBits v (eventsOf p i)).length := by
  rw [clkRises_length, prePulses_eventsOf v p hc hclk]

end prePulses

/-- Settles O34: the pulses are the pre-pulse (`prePulses_eventsOf`) and one for each bit of the frame, whose lengths
`framesOnTheWire` gives. -/
theorem clockPulseCounts : Obligations.ClockPulseCounts := by
  intro p v a d hclk
  obtain ⟨-, -, -, -, hread, hwrite, hewen, hewds⟩ := framesOnTheWire p v a d hclk
  refine ⟨?_, ?_, ?_, ?_, fun i hc => prePulses_eventsOf v p hc hclk⟩
  · rw [clkRises_eventsOf_length v p rfl hclk, hread]; omega
  · rw [clkRises_eventsOf_length v p rfl hclk, hwrite]; omega
  · rw [clkRises_eventsOf_length v p rfl hclk, hewen]; omega
  · rw [clkRises_eventsOf_length v p rfl hclk, hewds]; omega

end Sys2Proof.Machine
end

section
/-! What the four transaction commands do (spec/43_operations.md R100 to R111): the events each adds to the trace, the
levels its SAMPLEs return, the state it leaves, and that EWEN's and EWDS's lists differ in the payload's bits alone. -/

namespace Sys2Proof.Machine

/-! ### The lengths of the event lists -/

section lengths
variable (p : Params)

@[simp] theorem cellEvents_length (v : Bool) : (cellEvents p v).length = 6 := rfl

/-- R86: six events a bit and the `SET(DO, 0)` after them. -/
@[simp] theorem transferEvents_length (value : Word) (n : Nat) : (transferEvents p value n).length = 6 * n + 1 := by
  induction n with
  | zero => rfl
  | succ n ih => rw [transferEvents, List.length_append, cellEvents_length, ih]; omega

@[simp] theorem beginEvents_length (o1 o0 : Bool) : (beginEvents p o1 o0).length = 26 := rfl

theorem readEvents_length (a : Word) : (readEvents p a).length = 6 * p.geom.aw + 6 * p.geom.ps + 35 := by
  simp +arith [readEvents]

theorem writeEvents_length (a d : Word) : (writeEvents p a d).length = 6 * p.geom.aw + 6 * p.geom.ps + 30 := by
  simp +arith [writeEvents]

theorem ewenEvents_length : (ewenEvents p).length = 6 * p.geom.aw + 28 := by
  simp +arith [ewenEvents_eq]

theorem ewdsEvents_length : (ewdsEvents p).length = 6 * p.geom.aw + 28 := by
  simp +arith [ewdsEvents_eq]

/-- R104: WRITE's last event is the write wait. -/
theorem writeEvents_getLast? (a d : Word) :
    (writeEvents p a d).getLast? = some (.wait (p.tWriteCount * p.writeUnit)) := by
  simp [writeEvents]

end lengths

/-! ### The payload of EWEN and EWDS (R110) -/

/-- The one shape of EWEN's and EWDS's lists (R107, R109): `b` is the payload's bit. -/
def controlEvents (p : Params) (b : Bool) : List Event :=
  beginEvents p false false ++ (List.replicate p.geom.aw (cellEvents p b)).flatten ++ [.set .dout false, .set .cs false]

section payload
variable (p : Params) (b c : Bool)

theorem ewenEvents_eq_controlEvents : ewenEvents p = controlEvents p true := rfl
theorem ewdsEvents_eq_controlEvents : ewdsEvents p = controlEvents p false := rfl

/-- Event `e` of the `j`-th of `n` equal cells. -/
theorem repeatedCells_getElem? {n j e : Nat} (hj : j < n) (he : e < 6) :
    (List.replicate n (cellEvents p b)).flatten[6 * j + e]? = (cellEvents p b)[e]? := by
  induction n generalizing j with
  | zero => cases hj
  | succ n ih =>
    rw [List.replicate_succ, List.flatten_cons]
    cases j with
    | zero => rw [List.getElem?_append_left (by simpa using he), Nat.mul_zero, Nat.zero_add]
    | succ j =>
      rw [List.getElem?_append_right (by simp; omega), cellEvents_length,
        show 6 * (j + 1) + e - 6 = 6 * j + e by omega, ih (Nat.lt_of_succ_lt_succ hj)]

/-- The payload's cells come after the 26 events of `BeginTransaction`. -/
theorem controlEvents_getElem?_cell {j e : Nat} (hj : j < p.geom.aw) (he : e < 6) :
    (controlEvents p b)[26 + (6 * j + e)]? = (cellEvents p b)[e]? := by
  have hin : 6 * j + e < 6 * p.geom.aw := by omega
  rw [controlEvents, List.append_assoc, List.getElem?_append_right (by simp), beginEvents_length,
    Nat.add_sub_cancel_left, List.getElem?_append_left (by simp; omega), repeatedCells_getElem? p b hj he]

/-- Event 1 of a cell alone shows its bit (R86). -/
theorem cellEvents_getElem?_of_ne_one {e : Nat} (he : e ≠ 1) : (cellEvents p b)[e]? = (cellEvents p c)[e]? := by
  match e with
  | 0 => rfl
  | 1 => exact absurd rfl he
  | e + 2 => rfl

/-- R110: at every other position the list is the same for both payloads: in `BeginTransaction`, in a cell beside its
event 1, and after the payload. -/
theorem controlEvents_getElem?_of_not_payload {k : Nat} (hk : ¬ ∃ j, j < p.geom.aw ∧ k = 27 + 6 * j) :
    (controlEvents p b)[k]? = (controlEvents p c)[k]? := by
  by_cases hbegin : k < 26
  · simp only [controlEvents, List.append_assoc]
    rw [List.getElem?_append_left (by simpa using hbegin), List.getElem?_append_left (by simpa using hbegin)]
  · obtain ⟨m, rfl⟩ := Nat.exists_eq_add_of_le (Nat.le_of_not_lt hbegin)
    by_cases hcells : m < 6 * p.geom.aw
    · have hj : m / 6 < p.geom.aw := by omega
      have hne : m % 6 ≠ 1 := fun h => hk ⟨m / 6, hj, by omega⟩
      rw [show m = 6 * (m / 6) + m % 6 by omega, controlEvents_getElem?_cell p b hj (by omega),
        controlEvents_getElem?_cell p c hj (by omega), cellEvents_getElem?_of_ne_one p b c hne]
    · rw [controlEvents, controlEvents, List.getElem?_append_right (by simp; omega),
        List.getElem?_append_right (by simp; omega)]
      simp

end payload

/-- Settles O39: the lists have one shape (`controlEvents`), in which the bit shows in event 1 of each payload cell, and
there alone. -/
theorem enableAndDisableDifferOnlyInPayload : Obligations.EnableAndDisableDifferOnlyInPayload := by
  intro p
  refine ⟨(ewenEvents_length p).trans (ewdsEvents_length p).symm,
    fun k hk => controlEvents_getElem?_of_not_payload p true false hk, fun j hj => ?_⟩
  rw [ewenEvents_eq_controlEvents, ewdsEvents_eq_controlEvents, show 27 + 6 * j = 26 + (6 * j + 1) by omega,
    controlEvents_getElem?_cell p true hj (by decide), controlEvents_getElem?_cell p false hj (by decide)]
  exact ⟨rfl, rfl⟩

/-! ### The event lists on the trace -/

/-- R100, R103, R106, R108: a transaction's precondition is an open idle engine. -/
theorem permitted_of_isTransaction {s : State} {i : Instr} (hc : i.cmd.isTransaction = true) (hb : s.busy = false)
    (ho : s.isOpen = true) : Permitted s i := by
  have hne : i.cmd ≠ .openCmd := fun h => by simp [h, Cmd.isTransaction] at hc
  exact ⟨hb, iff_of_true ho hne⟩

/-- R119: a transaction leaves the engine open. -/
theorem completed_isOpen_of_isTransaction {s : State} {i : Instr} (hc : i.cmd.isTransaction = true)
    (hp : Permitted s i) : (s.completed i).isOpen = true := by
  have hne : i.cmd ≠ .closeCmd := fun h => by simp [h, Cmd.isTransaction] at hc
  simpa [hne] using completed_isOpen hp

/-- Settles O21: an open idle engine permits WRITE, which performs `writeEvents`. -/
theorem writePerformsItsEventList : Obligations.WritePerformsItsEventList := by
  intro s a d hb ho
  obtain ⟨t, ht, htrace⟩ := exec_performs_eventsOf (i := .write a d) (permitted_of_isTransaction rfl hb ho)
  exact ⟨t, ht, htrace, writeEvents_length s.cfg a d, writeEvents_getLast? s.cfg a d⟩

/-- Settles O23: an open idle engine permits EWEN, which performs `ewenEvents`. -/
theorem ewenPerformsItsEventList : Obligations.EwenPerformsItsEventList := by
  intro s a d hb ho
  obtain ⟨t, ht, htrace⟩ := exec_performs_eventsOf (i := .ewen a d) (permitted_of_isTransaction rfl hb ho)
  exact ⟨t, ht, htrace, ewenEvents_length s.cfg⟩

/-- Settles O25: an open idle engine permits EWDS, which performs `ewdsEvents`. -/
theorem ewdsPerformsItsEventList : Obligations.EwdsPerformsItsEventList := by
  intro s a d hb ho
  obtain ⟨t, ht, htrace⟩ := exec_performs_eventsOf (i := .ewds a d) (permitted_of_isTransaction rfl hb ho)
  exact ⟨t, ht, htrace, ewdsEvents_length s.cfg⟩

/-- Settles O26: a transaction is permitted on an open engine, stays open (`completed_isOpen_of_isTransaction`), and
returns the lines to those of R37 (`idleLines_completed`). -/
theorem transactionsEndIdleOpen : Obligations.TransactionsEndIdleOpen := by
  intro s i hc ho hb hlines
  have hp : Permitted s i := permitted_of_isTransaction hc hb ho
  have hopen : (s.completed i).isOpen = true := completed_isOpen_of_isTransaction hc hp
  have hidle : IdleLines (s.completed i) := idleLines_completed (by simpa [IdleLines, ho] using hlines) hp
  exact ⟨_, exec_of_permitted hp, hopen, completed_busy s i, by simpa [IdleLines, hopen] using hidle⟩

/-! ### The device's levels that a run uses up (R15, R24) -/

/-- The levels returned by the SAMPLEs of a run so far (R15). -/
def State.sampledLevels (s : State) : List Bool := s.trace.filterMap (·.sampled)

/-- From `s` to `t` the run has sampled the next `k` levels of DI, in order, and no others. -/
structure Samples (s t : State) (k : Nat) : Prop where
  di : t.di = s.di.drop k
  samples : t.samples = s.samples + k
  levels : t.sampledLevels = s.sampledLevels ++ (List.range k).map s.diAt

section samples
variable {s t u : State}

theorem samples_refl (s : State) : Samples s s 0 := ⟨rfl, rfl, by simp⟩

theorem Samples.trans {k l : Nat} (hst : Samples s t k) (htu : Samples t u l) : Samples s u (k + l) where
  di := by rw [htu.di, hst.di, List.drop_drop]
  samples := by rw [htu.samples, hst.samples, Nat.add_assoc]
  levels := by
    rw [htu.levels, hst.levels, List.range_add, List.map_append, List.map_map, List.append_assoc]
    simp only [Function.comp_def, ← diAt_of_consumed hst.di hst.samples]

/-- A micro-operation that is no SAMPLE uses up no level. -/
theorem samples_of_level_none {m : Micro} (h : m.level s = none) (hdi : (s.micro m).di = s.di)
    (hs : (s.micro m).samples = s.samples) : Samples s (s.micro m) 0 :=
  ⟨hdi, hs, by simp [State.sampledLevels, micro_trace, h]⟩

/-- A SAMPLE uses up one. -/
theorem samples_of_level_some {m : Micro} (h : m.level s = some (s.diAt 0)) (hdi : (s.micro m).di = s.di.tail)
    (hs : (s.micro m).samples = s.samples + 1) : Samples s (s.micro m) 1 :=
  ⟨by simpa using hdi, hs, by simp [State.sampledLevels, micro_trace, h]⟩

theorem samples_micro (s : State) (m : Micro) : ∃ k, Samples s (s.micro m) k := by
  cases m with
  | firstSample v n => exact ⟨1, samples_of_level_some rfl rfl rfl⟩
  | nextSample => exact ⟨1, samples_of_level_some rfl rfl rfl⟩
  | _ => exact ⟨0, samples_of_level_none rfl rfl rfl⟩

theorem exists_samples_runMicros (s : State) (ms : List Micro) : ∃ k, Samples s (s.runMicros ms) k := by
  induction ms generalizing s with
  | nil => exact ⟨0, samples_refl s⟩
  | cons m ms ih =>
    obtain ⟨k, hk⟩ := samples_micro s m
    obtain ⟨l, hl⟩ := ih (s.micro m)
    exact ⟨k + l, hk.trans hl⟩

/-- The count of a run's SAMPLEs says which levels they returned. -/
theorem samples_runMicros {ms : List Micro} {k : Nat} (h : (s.runMicros ms).samples = s.samples + k) :
    Samples s (s.runMicros ms) k := by
  obtain ⟨l, hl⟩ := exists_samples_runMicros s ms
  obtain rfl : k = l := Nat.add_left_cancel (h.symm.trans hl.samples)
  exact hl

end samples

/-! ### Completion writes leave the sequencer, the datapath, the inputs and the record alone (R30) -/

section finish
variable (s : State) (c : Cmd)

@[simp] theorem finish_cur : (s.finish c).cur = s.cur := by cases c <;> rfl
@[simp] theorem finish_seq : (s.finish c).seq = s.seq := by cases c <;> rfl
@[simp] theorem finish_tx : (s.finish c).tx = s.tx := by cases c <;> rfl
@[simp] theorem finish_rx : (s.finish c).rx = s.rx := by cases c <;> rfl
@[simp] theorem finish_bi : (s.finish c).bi = s.bi := by cases c <;> rfl
@[simp] theorem finish_di : (s.finish c).di = s.di := by cases c <;> rfl
@[simp] theorem finish_samples : (s.finish c).samples = s.samples := by cases c <;> rfl
@[simp] theorem finish_events : (s.finish c).events = s.events := by cases c <;> rfl
@[simp] theorem finish_trace : (s.finish c).trace = s.trace := by cases c <;> rfl

end finish

/-! ### The state a transaction leaves -/

section frame
variable (s : State)

theorem runMicros_eventTrace_length (ms : List Micro) :
    (s.runMicros ms).eventTrace.length = s.eventTrace.length + ms.length := by
  induction ms generalizing s with
  | nil => rfl
  | cons m ms ih => rw [runMicros_cons, ih, micro_eventTrace]; simp +arith

/-- R30: the sequencer's list has one entry for each event of `E(cmd)`. -/
theorem programOf_length (i : Instr) : (programOf s.cfg i).length = (eventsOf s.cfg i).length := by
  have hlen : (s.runMicros (programOf s.cfg i)).eventTrace.length = (s.eventTrace ++ eventsOf s.cfg i).length :=
    congrArg List.length (programOf_eventTrace s i)
  rw [runMicros_eventTrace_length, List.length_append] at hlen
  exact Nat.add_left_cancel hlen

/-- R60, R86: a transaction samples DI once for each bit of its frame. -/
theorem transaction_samples {i : Instr} (hc : i.cmd.isTransaction = true) :
    (s.runMicros (programOf s.cfg i)).samples = s.samples + (wireFrame s.cfg i).length := by
  cases i with
  | openCmd a d => cases hc
  | closeCmd a d => cases hc
  | read a d =>
    simp +arith [programOf, Instr.cmd, program, readProgram, readWindowBits, endTransaction, runMicros_append,
      runMicros_cons, wireFrame_read]
  | write a d =>
    simp +arith [programOf, Instr.cmd, program, writeProgram, endTransaction, runMicros_append, runMicros_cons,
      wireFrame_write]
  | ewen a d =>
    simp +arith [programOf, Instr.cmd, program, ewenProgram, endTransaction, runMicros_append, runMicros_cons,
      wireFrame_ewen]
  | ewds a d =>
    simp +arith [programOf, Instr.cmd, program, ewdsProgram, endTransaction, runMicros_append, runMicros_cons,
      wireFrame_ewds]

theorem wireFrame_read_length (p : Params) (a d : Word) :
    (wireFrame p (.read a d)).length = 3 + p.geom.aw + p.geom.ps + 1 := by
  simp +arith [wireFrame_read]

/-- The pre-pulse's waits run the timer out (R32, R93), whatever it held, and nothing after them leaves it running. -/
theorem beginTransaction_append_tmr (p : Params) (opw : Word) (rest : List Micro) :
    (s.runMicros (beginTransaction p opw ++ rest)).tmr = 0 := by
  rw [beginTransaction, List.append_assoc, runMicros_append]
  exact runMicros_tmr_zero _ (by simp [prePulse, runMicros_cons])

theorem transaction_tmr {c : Cmd} (hc : c.isTransaction = true) (p : Params) (a d : Word) :
    (s.runMicros (program p c a d)).tmr = 0 := by
  cases c with
  | openCmd => cases hc
  | closeCmd => cases hc
  | read => simp only [program, readProgram, List.append_assoc, beginTransaction_append_tmr]
  | write => simp only [program, writeProgram, List.append_assoc, beginTransaction_append_tmr]
  | ewen => simp only [program, ewenProgram, List.append_assoc, beginTransaction_append_tmr]
  | ewds => simp only [program, ewdsProgram, List.append_assoc, beginTransaction_append_tmr]

theorem completed_seq (i : Instr) : (s.completed i).seq = (eventsOf s.cfg i).length := by
  simp [State.completed, programOf_length]

theorem completed_events (i : Instr) : (s.completed i).events = s.events + (eventsOf s.cfg i).length := by
  simp [State.completed, programOf_length]

theorem completed_cur (i : Instr) :
    (s.completed i).cur = ⟨i.cmd.code, trunc s.cfg.geom.aw i.addr, trunc s.cfg.geom.ps i.data⟩ := by
  simp [State.completed]

/-- Acceptance and the completion writes touch neither DI's levels nor the trace (R24). -/
theorem completed_samples {i : Instr} (hc : i.cmd.isTransaction = true) :
    Samples s (s.completed i) (wireFrame s.cfg i).length := by
  obtain ⟨hdi, hsamples, hlevels⟩ := samples_runMicros (transaction_samples (s.accept i) hc)
  refine ⟨(finish_di _ _).trans hdi, (finish_samples _ _).trans hsamples, Eq.trans ?_ hlevels⟩
  simp [State.completed, State.sampledLevels]

/-- What every transaction leaves (R100, R103, R106, R108): CS, CLK and DO low, the command latched, the sequencer past
its last event, one level of DI used up for each bit of the frame. The datapath and READ's results, which differ from
command to command, are named by themselves. -/
theorem completed_transaction {s : State} {i : Instr} (hc : i.cmd.isTransaction = true) (hb : s.busy = false)
    (ho : s.isOpen = true) :
    s.completed i = { s with
      lvl := ⟨false, false, false, s.lvl.pe⟩
      busy := false
      cur := ⟨i.cmd.code, trunc s.cfg.geom.aw i.addr, trunc s.cfg.geom.ps i.data⟩
      seq := (eventsOf s.cfg i).length
      tx := (s.completed i).tx, rx := (s.completed i).rx, bi := (s.completed i).bi, tmr := 0
      rdata := (s.completed i).rdata, rraw := (s.completed i).rraw, rspValid := decide (i.cmd = .read)
      di := s.di.drop (wireFrame s.cfg i).length, samples := s.samples + (wireFrame s.cfg i).length
      events := s.events + (eventsOf s.cfg i).length
      now := (s.completed i).now, trace := (s.completed i).trace } := by
  have hp : Permitted s i := permitted_of_isTransaction hc hb ho
  obtain ⟨-, -, -, -, hhost⟩ := exec_next s _ i hb (exec_of_permitted hp)
  have hopen : (s.completed i).isOpen = s.isOpen := (completed_isOpen_of_isTransaction hc hp).trans ho.symm
  obtain ⟨hdir, hlvl⟩ := transaction_lines (s.accept i) s.cfg hc i.addr i.data
  have htmr : (s.completed i).tmr = 0 := (finish_tmr _ _).trans (transaction_tmr (s.accept i) hc s.cfg i.addr i.data)
  have hvalid : (s.completed i).rspValid = decide (i.cmd = .read) := by
    rw [Bool.eq_iff_iff, completed_rspValid, decide_eq_true_iff]
  obtain ⟨hdi, hsamples, -⟩ := completed_samples s hc
  exact State.ext (completed_cfg s i) ((finish_dir _ _).trans hdir) ((finish_lvl _ _).trans hlvl) hopen
    (completed_busy s i) (completed_cur s i) (completed_seq s i) rfl rfl rfl htmr rfl rfl hvalid hhost hdi hsamples
    (completed_events s i) rfl rfl

end frame

/-- Settles O19: an open idle engine permits READ, which performs `readEvents`, and its SAMPLEs return the coming levels
of DI (`completed_samples`), one for each bit of READ's frame. -/
theorem readPerformsItsEventList : Obligations.ReadPerformsItsEventList := by
  intro s a d hb ho
  have hp : Permitted s (.read a d) := permitted_of_isTransaction rfl hb ho
  have hlevels := (completed_samples s (i := .read a d) rfl).levels
  rw [wireFrame_read_length] at hlevels
  exact ⟨_, exec_of_permitted hp, completed_eventTrace s _, readEvents_length s.cfg a, hlevels⟩

/-! ### What READ leaves in the datapath and returns -/

section read
variable (s : State) (p : Params)

@[simp] theorem laterCells_tx (n : Nat) : (s.runMicros (laterCells p n)).tx = s.tx := by
  induction n generalizing s with
  | zero => simp [laterCells, runMicros_cons]
  | succ n ih => simp [laterCells, runMicros_cons, runMicros_append, ih]

/-- R31: `tx` keeps the value of the last Transfer. -/
@[simp] theorem transfer_tx (value : Word) (n : Nat) :
    (s.runMicros (transfer p value n)).tx = trunc s.cfg.geom.wmax value := by
  cases n with
  | zero => simp [transfer, runMicros_cons]
  | succ n => simp [transfer, runMicros_cons, runMicros_append]

/-- Each later cell lowers `bi` by one (R84). -/
@[simp] theorem laterCells_bi (n : Nat) : (s.runMicros (laterCells p n)).bi = s.bi - n := by
  induction n generalizing s with
  | zero => simp [laterCells, runMicros_cons]
  | succ n ih => simp [laterCells, runMicros_cons, runMicros_append, ih, Nat.sub_sub, Nat.add_comm 1]

/-- R31, R84: `bi` ends at the last cell's position, 0. -/
theorem transfer_bi (value : Word) {n : Nat} (hn : n ≤ s.cfg.geom.wmax) :
    (s.runMicros (transfer p value n)).bi = 0 := by
  cases n with
  | zero => simp [transfer, runMicros_cons, trunc]
  | succ n => simp [transfer, runMicros_cons, runMicros_append, trunc_biWidth hn]

/-- READ's last Transfer is its window, of the value 0 (R66, R100). -/
theorem readProgram_tx (a : Word) : (s.runMicros (readProgram p a)).tx = 0 := by
  simp [readProgram, readWindowValue, endTransaction, runMicros_append, runMicros_cons, trunc]

theorem readProgram_bi (a : Word) : (s.runMicros (readProgram s.cfg a)).bi = 0 := by
  simp only [readProgram, endTransaction, runMicros_append, runMicros_cons, runMicros_nil, micro_set_bi]
  exact transfer_bi _ _ _ (by simp [readWindowBits])

/-- R34, R100: `rraw` holds the whole window, which is what `rx` holds. -/
theorem completed_read_rx (a d : Word) : (s.completed (.read a d)).rx = (s.completed (.read a d)).rraw := by
  obtain ⟨hrraw, -⟩ := completed_read_results s a d
  have hrx := readProgram_rx (s.accept (.read a d)) a
  exact (finish_rx _ _).trans (hrx.trans hrraw.symm)

/-- The window's first sample is its top bit, the others the bits below (R102). -/
theorem sampleSum_testBit_top (skip n : Nat) : (sampleSum s skip (n + 1)).testBit n = s.diAt skip := by
  rw [sampleSum_succ, Nat.mul_comm, Nat.testBit_two_pow_mul_add _ (sampleSum_lt s (skip + 1) n)]
  cases s.diAt skip <;> simp

theorem sampleSum_mod (skip n : Nat) : sampleSum s skip (n + 1) % 2 ^ n = sampleSum s (skip + 1) n := by
  rw [sampleSum_succ, Nat.mul_add_mod_self_right, Nat.mod_eq_of_lt (sampleSum_lt s (skip + 1) n)]

/-- R102 counts `rdata`'s samples from 1, the window's first being no data bit. -/
theorem sampleSum_eq_sum_Icc (skip n : Nat) :
    sampleSum s (skip + 1) n = ∑ m ∈ Finset.Icc 1 n, (s.diAt (skip + m)).toNat * 2 ^ (n - m) := by
  rw [← Finset.Ico_add_one_right_eq_Icc, Finset.sum_Ico_eq_sum_range]
  simp only [sampleSum, Nat.add_sub_cancel, Nat.add_assoc, Nat.sub_sub]

end read

/-- Settles O18: the results are READ's window (`completed_read_results`), the sum of its samples, and the rest is the
frame of every transaction (`completed_transaction`). -/
theorem readReturnsTheWindowSamples : Obligations.ReadReturnsTheWindowSamples := by
  intro s a d hb ho ps aw sm
  obtain ⟨hrraw, hrdata⟩ := completed_read_results s a d
  have htx : (s.completed (.read a d)).tx = 0 := (finish_tx _ _).trans (readProgram_tx (s.accept (.read a d)) s.cfg a)
  have hbi : (s.completed (.read a d)).bi = 0 := (finish_bi _ _).trans (readProgram_bi (s.accept (.read a d)) a)
  have hseq : (eventsOf s.cfg (.read a d)).length = 6 * aw + 6 * ps + 35 := readEvents_length s.cfg a
  refine ⟨_, exec_of_permitted (permitted_of_isTransaction rfl hb ho), hrraw, ?_, ?_, ?_⟩
  · rw [hrdata, sampleSum_mod, sampleSum_eq_sum_Icc]
  · rw [hrraw]
    exact sampleSum_testBit_top s (3 + aw) ps
  · have hframe := completed_transaction (i := .read a d) rfl hb ho
    rw [hseq, wireFrame_read_length, htx, hbi, completed_read_rx] at hframe
    exact hframe

end Sys2Proof.Machine
end

section
/-! How long the engine waits in each unit of a command (spec/70_reset_and_hazards.md R141). -/

namespace Sys2Proof.Machine

/-! ### The sum of a list's waits -/

@[simp] theorem waitSum_nil : waitSum [] = 0 := rfl

@[simp] theorem waitSum_cons (e : Event) (es : List Event) : waitSum (e :: es) = e.duration + waitSum es :=
  List.sum_cons

@[simp] theorem waitSum_append (es fs : List Event) : waitSum (es ++ fs) = waitSum es + waitSum fs := by
  rw [waitSum, List.map_append, List.sum_append]
  rfl

/-! R16: only WAIT advances the engine's time. -/

@[simp] theorem duration_dir (l : Line) (d : Dir) : (Event.dir l d).duration = 0 := rfl
@[simp] theorem duration_set (l : OutLine) (x : Bool) : (Event.set l x).duration = 0 := rfl
@[simp] theorem duration_sample : Event.sample.duration = 0 := rfl
@[simp] theorem duration_wait (t : Nat) : (Event.wait t).duration = t := rfl

/-! ### The units of a transaction -/

section units
variable (p : Params)

/-- R86: a cell holds CLK low and then high for `T_HALF`. -/
@[simp] theorem waitSum_cellEvents (v : Bool) : waitSum (cellEvents p v) = 2 * p.tHalf := by
  simp [cellEvents, Nat.two_mul]

@[simp] theorem waitSum_prePulseEvents : waitSum (prePulseEvents p) = p.tPre1 + p.tPre2 := by
  simp [prePulseEvents]

/-- R86: a Transfer waits in its cells alone, whatever its value. -/
@[simp] theorem waitSum_transferEvents (value : Word) (n : Nat) :
    waitSum (transferEvents p value n) = 2 * n * p.tHalf := by
  induction n with
  | zero => simp [transferEvents]
  | succ n ih =>
    rw [transferEvents, waitSum_append, waitSum_cellEvents, ih]
    ring

/-- R93, R94: the pre-pulse, then the preamble's three cells. -/
@[simp] theorem waitSum_beginEvents (o1 o0 : Bool) :
    waitSum (beginEvents p o1 o0) = p.tPre1 + p.tPre2 + 2 * 3 * p.tHalf := by
  simp only [beginEvents, waitSum_append, waitSum_prePulseEvents, waitSum_cellEvents, waitSum_cons, waitSum_nil,
    duration_set]
  ring

/-! ### The commands -/

theorem waitSum_openEvents : waitSum (openEvents p) = p.tPeSetup := by simp [openEvents]

theorem waitSum_closeEvents : waitSum closeEvents = 0 := by simp [closeEvents]

/-- R101: the three preamble bits, the `AW` address bits and the `PS + 1` bits of the window. -/
theorem waitSum_readEvents (a : Word) :
    waitSum (readEvents p a) = p.tPre1 + p.tPre2 + 2 * (p.geom.ps + p.geom.aw + 4) * p.tHalf := by
  simp only [readEvents, waitSum_append, waitSum_beginEvents, waitSum_transferEvents, waitSum_cons, waitSum_nil,
    duration_set]
  ring

/-- R104: the three preamble bits, the `AW` address bits, the `PS` data bits, and the write wait. -/
theorem waitSum_writeEvents (a d : Word) :
    waitSum (writeEvents p a d) =
      p.tPre1 + p.tPre2 + 2 * (p.geom.ps + p.geom.aw + 3) * p.tHalf + p.tWriteCount * p.writeUnit := by
  simp only [writeEvents, waitSum_append, waitSum_beginEvents, waitSum_transferEvents, waitSum_cons, waitSum_nil,
    duration_set, duration_wait]
  ring

/-- The three preamble bits and the `AW` payload bits. The payload, in which EWEN and EWDS differ, changes no wait. -/
theorem waitSum_controlTransaction (payload : Word) :
    waitSum (beginEvents p false false ++ transferEvents p payload p.geom.aw ++ [.set .cs false]) =
      p.tPre1 + p.tPre2 + 2 * (p.geom.aw + 3) * p.tHalf := by
  simp only [waitSum_append, waitSum_beginEvents, waitSum_transferEvents, waitSum_cons, waitSum_nil, duration_set]
  ring

theorem waitSum_ewenEvents : waitSum (ewenEvents p) = p.tPre1 + p.tPre2 + 2 * (p.geom.aw + 3) * p.tHalf := by
  rw [ewenEvents_eq, waitSum_controlTransaction]

theorem waitSum_ewdsEvents : waitSum (ewdsEvents p) = p.tPre1 + p.tPre2 + 2 * (p.geom.aw + 3) * p.tHalf := by
  rw [ewdsEvents_eq, waitSum_controlTransaction]

end units

/-- Settles O41: each row of R141's table is the sum of one event list, the units first and then the commands, whose
lists are made of those units. -/
theorem waitSumsOfCommands : Obligations.WaitSumsOfCommands := by
  intro p a d ps aw
  exact ⟨waitSum_cellEvents p true, waitSum_cellEvents p false, waitSum_prePulseEvents p, waitSum_transferEvents p,
    waitSum_readEvents p a, waitSum_writeEvents p a d, waitSum_ewenEvents p, waitSum_ewdsEvents p,
    waitSum_openEvents p, waitSum_closeEvents⟩

end Sys2Proof.Machine
end

section
/-! The command word's three fields lie side by side (spec/30_encoding.md R63, R64), so decoding and encoding undo each
other. -/

namespace Sys2Proof

/-! ### The fields of a word -/

/-- R63: CMDW is the number with the code's three bits lowest, the address above them, the data on top. -/
theorem encode_eq_add (g : Geometry) (i : Instr) :
    encode g i = i.cmd.code.toNat + 2 ^ 3 * (trunc g.aw i.addr + 2 ^ g.aw * trunc g.ps i.data) := by
  have hcode : i.cmd.code.toNat < 2 ^ 3 := i.cmd.code.isLt
  have hfields : (trunc g.ps i.data <<< (3 + g.aw)) ||| (trunc g.aw i.addr <<< 3) =
      (trunc g.aw i.addr + 2 ^ g.aw * trunc g.ps i.data) <<< 3 := by
    rw [Nat.add_comm 3, Nat.shiftLeft_add, ← Nat.shiftLeft_or_distrib,
      ← Nat.shiftLeft_add_eq_or_of_lt (trunc_lt g.aw i.addr), Nat.shiftLeft_eq (trunc g.ps i.data),
      Nat.mul_comm (trunc g.ps i.data), Nat.add_comm]
  rw [encode, hfields, ← Nat.shiftLeft_add_eq_or_of_lt hcode, Nat.shiftLeft_eq, Nat.mul_comm, Nat.add_comm]

/-- A field of a word by division, as R63's ranges read. -/
theorem slice_eq (w : Word) (lo len : Nat) : slice w lo len = w / 2 ^ lo % 2 ^ len := by
  rw [slice, trunc, Nat.shiftRight_eq_div_pow]

theorem ofNat_encode (g : Geometry) (i : Instr) : BitVec.ofNat 3 (encode g i) = i.cmd.code := by
  apply BitVec.eq_of_toNat_eq
  rw [BitVec.toNat_ofNat, encode_eq_add, Nat.add_mul_mod_self_left, Nat.mod_eq_of_lt i.cmd.code.isLt]

/-- What lies above the code of an encoded command. -/
theorem encode_div (g : Geometry) (i : Instr) :
    encode g i / 2 ^ 3 = trunc g.aw i.addr + 2 ^ g.aw * trunc g.ps i.data := by
  rw [encode_eq_add, Nat.add_mul_div_left _ _ (by decide), Nat.div_eq_of_lt i.cmd.code.isLt, Nat.zero_add]

@[simp] theorem slice_encode_addr (g : Geometry) (i : Instr) : slice (encode g i) 3 g.aw = trunc g.aw i.addr := by
  rw [slice_eq, encode_div, Nat.add_mul_mod_self_left, Nat.mod_eq_of_lt (trunc_lt _ _)]

@[simp] theorem slice_encode_data (g : Geometry) (i : Instr) :
    slice (encode g i) (3 + g.aw) g.ps = trunc g.ps i.data := by
  rw [slice_eq, Nat.pow_add, ← Nat.div_div_eq_div_mul, encode_div, Nat.add_mul_div_left _ _ (Nat.two_pow_pos _),
    Nat.div_eq_of_lt (trunc_lt _ _), Nat.zero_add, Nat.mod_eq_of_lt (trunc_lt _ _)]

/-! ### Decoding -/

theorem decode_of_code {g : Geometry} {w : Word} {c : Cmd} (h : BitVec.ofNat 3 w = c.code) :
    decode g w = .ok (c.instr (w / 2 ^ 3 % 2 ^ g.aw) (w / 2 ^ (3 + g.aw) % 2 ^ g.ps)) := by
  rw [decode, h, Cmd.ofCode_code, slice_eq, slice_eq]

theorem decode_ok {g : Geometry} {w : Word} {i : Instr} (h : decode g w = .ok i) :
    ∃ c : Cmd, BitVec.ofNat 3 w = c.code ∧ i = c.instr (slice w 3 g.aw) (slice w (3 + g.aw) g.ps) := by
  unfold decode at h
  split at h
  next c hc => cases h; exact ⟨c, (Cmd.code_of_ofCode _ c hc).symm, rfl⟩
  next => cases h

/-- Settles O2: the code and the two fields stand in the encoded word, where `decode` reads them. -/
theorem decodeOfEncodeIsTheCommand : Obligations.DecodeOfEncodeIsTheCommand := by
  rintro g i ⟨haddr, hdata⟩
  rw [decode, ofNat_encode, Cmd.ofCode_code]
  simp [trunc_of_lt _ _ haddr, trunc_of_lt _ _ hdata]

/-- Settles O3: a word's low bits are its code, its address and its data, as `encode_eq_add` puts them together. -/
theorem encodeOfDecodeIsTheWord : Obligations.EncodeOfDecodeIsTheWord := by
  intro g w i h
  obtain ⟨c, hcode, rfl⟩ := decode_ok h
  have hlow : c.code.toNat = w % 2 ^ 3 := by rw [← hcode, BitVec.toNat_ofNat]
  refine ⟨⟨?_, ?_⟩, ?_⟩
  · simpa [slice] using trunc_lt g.aw (w >>> 3)
  · simpa [slice] using trunc_lt g.ps (w >>> (3 + g.aw))
  · calc encode g (c.instr (slice w 3 g.aw) (slice w (3 + g.aw) g.ps))
        = w % 2 ^ 3 + 2 ^ 3 * (w / 2 ^ 3 % 2 ^ g.aw + 2 ^ g.aw * (w / 2 ^ 3 / 2 ^ g.aw % 2 ^ g.ps)) := by
          simp [encode_eq_add, hlow, slice_eq, trunc, Nat.pow_add, Nat.div_div_eq_div_mul]
      _ = w % 2 ^ (3 + g.aw + g.ps) := by
          rw [Nat.add_assoc, Nat.pow_add, Nat.pow_add, Nat.mod_mul, Nat.mod_mul]

/-- Settles O4: the low three bits are the code (`toNat_opField`), which decides the command. -/
theorem decodeFollowsCommandCodes : Obligations.DecodeFollowsCommandCodes := by
  intro g w a d
  have hcode (c : Cmd) (h : w % 8 = c.code.toNat) : decode g w = .ok (c.instr a d) :=
    decode_of_code (BitVec.eq_of_toNat_eq ((toNat_opField w).trans h))
  exact ⟨hcode .openCmd, hcode .closeCmd, hcode .read, hcode .write, hcode .ewen, hcode .ewds,
    fun h => ⟨_, decode_of_reserved g h⟩⟩

/-- Settles O1, by running the decoder and the encoder on the seven words. -/
theorem specTableWordsDecode : Obligations.SpecTableWordsDecode := by
  unfold Obligations.SpecTableWordsDecode
  decide

end Sys2Proof
end

section
/-! What `exec` answers, said once, and what follows for the words on the command port (spec/10_state.md R28,
spec/30_encoding.md R63, R65, spec/20_memory.md R48). -/

namespace Sys2Proof.Machine

/-! ### The three answers of `exec` -/

/-- R65: the refusal of a command that `open` forbids. -/
def refusalOfOpen (c : Cmd) : Refusal := if c = .openCmd then .alreadyOpen else .notOpen

section exec
variable {s t : State} {i j : Instr}

/-- R28: a word presented to a busy engine has no effect. -/
theorem exec_of_busy (hb : s.busy = true) (i : Instr) : exec i s = .next s := by
  cases i with
  | openCmd a d => simp [exec, execOpen, State.whenClosed, hb]
  | closeCmd a d => simp [exec, execClose, State.whenOpen, hb]
  | read a d => simp [exec, execRead, State.whenOpen, hb]
  | write a d => simp [exec, execWrite, State.whenOpen, hb]
  | ewen a d => simp [exec, execEwen, State.whenOpen, hb]
  | ewds a d => simp [exec, execEwds, State.whenOpen, hb]

theorem exec_of_not_permitted (hb : s.busy = false) (hp : ¬ Permitted s i) :
    exec i s = .refused (refusalOfOpen i.cmd) := by
  have hopen : ¬ (s.isOpen = true ↔ i.cmd ≠ .openCmd) := fun h => hp ⟨hb, h⟩
  refine (exec_refused_iff i).mpr ⟨hb, ?_⟩
  by_cases hc : i.cmd = .openCmd
  · exact .inr ⟨hc, by simpa [hc] using hopen, if_pos hc⟩
  · exact .inl ⟨hc, by simpa [hc] using hopen, if_neg hc⟩

/-- A busy engine is left alone (R28), a permitted command runs to its end (R71), any other is refused for `open` (R65). -/
theorem exec_cases (s : State) (i : Instr) :
    (s.busy = true ∧ exec i s = .next s) ∨ (Permitted s i ∧ exec i s = .next (s.completed i)) ∨
      (s.busy = false ∧ ¬ Permitted s i ∧ exec i s = .refused (refusalOfOpen i.cmd)) := by
  by_cases hb : s.busy = true
  · exact .inl ⟨hb, exec_of_busy hb i⟩
  · have hidle : s.busy = false := by simpa using hb
    by_cases hp : Permitted s i
    · exact .inr (.inl ⟨hp, exec_of_permitted hp⟩)
    · exact .inr (.inr ⟨hidle, hp, exec_of_not_permitted hidle hp⟩)

theorem exec_ne_fault (s : State) (i : Instr) (f : Fault) : exec i s ≠ .fault f := by
  obtain ⟨-, h⟩ | ⟨-, h⟩ | ⟨-, -, h⟩ := exec_cases s i <;> rw [h] <;> nofun

/-- Two words of one command are refused alike, so their answers are told apart only by what they complete to. -/
theorem exec_congr {α : Type} (f : Result → α) (hc : i.cmd = j.cmd)
    (h : f (.next (s.completed i)) = f (.next (s.completed j))) : f (exec i s) = f (exec j s) := by
  have hpermitted : Permitted s i ↔ Permitted s j := by simp only [Permitted, hc]
  obtain ⟨hb, hi⟩ | ⟨hp, hi⟩ | ⟨hb, hp, hi⟩ := exec_cases s i
  · rw [hi, exec_of_busy hb]
  · rw [hi, exec_of_permitted (hpermitted.mp hp), h]
  · rw [hi, exec_of_not_permitted hb (hpermitted.not.mp hp), hc]

end exec

/-! ### What no event reads: the latched command and the host's list -/

/-- The state with another latched command and another list of host moves. -/
def State.withPort (s : State) (c : Command) (q : List HostMove) : State := { s with cur := c, host := q }

section withPort
variable (s : State) (c : Command) (q : List HostMove)

theorem withPort_micro (m : Micro) : (s.withPort c q).micro m = (s.micro m).withPort c q := by
  cases m <;> rfl

theorem withPort_runMicros (ms : List Micro) : (s.withPort c q).runMicros ms = (s.runMicros ms).withPort c q := by
  induction ms generalizing s with
  | nil => rfl
  | cons m ms ih => rw [runMicros_cons, runMicros_cons, withPort_micro, ih]

theorem withPort_finish (k : Cmd) : (s.withPort c q).finish k = (s.finish k).withPort c q := by
  cases k <;> rfl

end withPort

@[simp] theorem finish_host (s : State) (c : Cmd) : (s.finish c).host = s.host := by cases c <;> rfl

/-- Two words of one command with one list complete alike, but for what `cur` latches (R29). -/
theorem completed_eq_withPort (s : State) {i j : Instr} (hc : i.cmd = j.cmd)
    (hprog : programOf s.cfg i = programOf s.cfg j) :
    s.completed i = (s.completed j).withPort
      ⟨i.cmd.code, trunc s.cfg.geom.aw i.addr, trunc s.cfg.geom.ps i.data⟩ (s.completed j).host := by
  have haccept : s.accept i = (s.accept j).withPort
      ⟨i.cmd.code, trunc s.cfg.geom.aw i.addr, trunc s.cfg.geom.ps i.data⟩ s.host := rfl
  have hhost : (s.completed j).host = s.host := by simp [State.completed]
  rw [hhost, State.completed, haccept, withPort_runMicros, withPort_finish, hc, hprog]
  rfl

/-- Settles O27: the fields of a command that does not use them are not in its list, so `completed_eq_withPort` leaves
them in `cur` alone, which the two `forget`s clear. -/
theorem unusedFieldsHaveNoEffect : Obligations.UnusedFieldsHaveNoEffect := by
  intro s a d a' d'
  have hfields {i j : Instr} (hc : i.cmd = j.cmd) (hprog : programOf s.cfg i = programOf s.cfg j) :
      forgetFields (exec i s) = forgetFields (exec j s) := by
    refine exec_congr forgetFields hc ?_
    rw [completed_eq_withPort s hc hprog]
    simp [forgetFields, State.withPort, completed_cur, hc]
  refine ⟨hfields rfl rfl, hfields rfl rfl, exec_congr forgetData rfl ?_, hfields rfl rfl, hfields rfl rfl⟩
  rw [completed_eq_withPort s (i := .read a d) (j := .read a d') rfl rfl]
  simp [forgetData, State.withPort, completed_cur, Instr.addr, Instr.cmd]

/-- Settles O28: acceptance and the command's list cut both fields (`program_trunc`), so cutting them before changes
nothing. -/
theorem wideArgumentsActAsLowBits : Obligations.WideArgumentsActAsLowBits := by
  intro s c a d
  refine exec_congr id (by simp) ?_
  have haccept : s.accept (c.instr a d) = s.accept (c.instr (trunc s.cfg.geom.aw a) (trunc s.cfg.geom.ps d)) := by
    simp [State.accept]
  have hprog : programOf s.cfg (c.instr a d) =
      programOf s.cfg (c.instr (trunc s.cfg.geom.aw a) (trunc s.cfg.geom.ps d)) := by
    simp [programOf]
  have hcompleted : s.completed (c.instr a d) = s.completed (c.instr (trunc s.cfg.geom.aw a) (trunc s.cfg.geom.ps d)) := by
    rw [State.completed, haccept, hprog, Cmd.instr_cmd, State.completed, Cmd.instr_cmd]
  exact congrArg Host.Outcome.next hcompleted

/-! ### One step -/

/-- Settles O5: a host step decodes the word presented and runs its command (`step_of_command`). -/
theorem stepRunsPresentedCommand : Obligations.StepRunsPresentedCommand := by
  intro s w rest i hb hh hd
  have hdrop : s.dropMove = { s with host := rest } := by rw [State.dropMove, hh, List.tail_cons]
  rw [step_of_command hb hh, hdrop, State.present, hd]

/-- Settles O6: `withFetchWord` presents the word to an idle engine, which runs it (O5). -/
theorem wordOnThePortRunsNext : Obligations.WordOnThePortRunsNext := by
  intro s nbits w i hd
  exact stepRunsPresentedCommand (s.withFetchWord nbits w) (trunc nbits w) s.host i rfl rfl hd

/-- Settles O8: both ways to present nothing lead to `idleStep`, and an empty list has no move to take. -/
theorem idleHostStepKeepsState : Obligations.IdleHostStepKeepsState := by
  rintro s hb (hh | ⟨rest, hh⟩)
  · have hstep : step s = .next s.idleStep := by simp [step, hb, State.hostStep, hh]
    rw [hstep, hh, List.tail_nil, ← hh]
    rfl
  · have hstep : step s = .next s.dropMove.idleStep := by simp [step, hb, State.hostStep, hh]
    exact hstep

section busy
variable {s : State}

/-- R116: but for reset, a step of a busy engine is its sequencer's. -/
theorem step_of_busy (hb : s.busy = true) (hh : s.host.head? ≠ some .reset) : step s = s.sequencerStep := by
  rw [step, if_pos hb, State.busyStep]
  split
  next rest hr => exact absurd (by rw [hr]; rfl) hh
  next => rfl

section event
variable {c : Cmd} {m : Micro} (hc : Cmd.ofCode s.cur.op = some c)
  (hm : (program s.cfg c s.cur.addr s.cur.data)[s.seq]? = some m)
include hc hm

theorem sequencerStep_of_event (hl : s.seq + 1 ≠ (program s.cfg c s.cur.addr s.cur.data).length) :
    s.sequencerStep = .next (s.micro m) := by
  simp [State.sequencerStep, hc, hm, hl]

theorem sequencerStep_of_lastEvent (hl : s.seq + 1 = (program s.cfg c s.cur.addr s.cur.data).length) :
    s.sequencerStep = .next ((s.micro m).finish c) := by
  simp [State.sequencerStep, hc, hm, hl]

end event

/-- A busy engine's step is the same event whatever the host's list, which it neither reads nor writes (R28). -/
theorem busy_step_withPort {t : State} {q : List HostMove} (hb : s.busy = true) (hh : s.host.head? ≠ some .reset)
    (hq : q.head? ≠ some .reset) (h : step s = .next t) :
    t.host = s.host ∧ t.cur = s.cur ∧ step (s.withPort s.cur q) = .next (t.withPort s.cur q) := by
  have hidle : s.busy ≠ false := by simp [hb]
  rw [step_of_busy (s := s.withPort s.cur q) hb hq]
  cases stepTo_of_step h with
  | reset hr => exact absurd hr hh
  | nothing hf => exact absurd hf hidle
  | command hf => exact absurd hf hidle
  | interrupted hf => exact absurd hf hidle
  | @event c m _ _ hc hm hl =>
    rw [sequencerStep_of_event (s := s.withPort s.cur q) hc hm hl, withPort_micro]
    exact ⟨micro_host s m, micro_cur s m, rfl⟩
  | @lastEvent c m _ _ hc hm hl =>
    rw [sequencerStep_of_lastEvent (s := s.withPort s.cur q) hc hm hl, withPort_micro, withPort_finish]
    exact ⟨by simp, by simp, rfl⟩

end busy

/-- Settles O9: with another host list the sequencer performs the same event (`busy_step_withPort`). -/
theorem busyEngineIgnoresCommandPort : Obligations.BusyEngineIgnoresCommandPort := by
  intro s t q hb hh hq hstep
  obtain ⟨hhost, hcur, hother⟩ := busy_step_withPort hb hh hq hstep
  exact ⟨hhost, hother.trans (by rw [← hcur]; rfl)⟩

end Sys2Proof.Machine
end

section
/-! All that OPEN, CLOSE, WRITE, EWEN and EWDS do (spec/40_lifecycle.md R77, R79, spec/43_operations.md R103, R106,
R108), and the datapath at each event of a Transfer (spec/10_state.md R31). READ's is above. -/

namespace Sys2Proof.Machine

/-! ### OPEN and CLOSE -/

/-- The state OPEN leaves, field by field: each of its ten operations writes a line or runs the timer (R77, R78). -/
theorem completed_openCmd (s : State) (a d : Word) :
    s.completed (.openCmd a d) = { s with
      dir := Dirs.claimed, lvl := Levels.low, isOpen := true, busy := false
      cur := ⟨Cmd.openCmd.code, trunc s.cfg.geom.aw a, trunc s.cfg.geom.ps d⟩, seq := 10, tmr := 0, rspValid := false
      events := s.events + 10
      now := (s.completed (.openCmd a d)).now, trace := (s.completed (.openCmd a d)).trace } := by
  apply State.ext <;>
    simp [State.completed, State.finish, programOf, program, Instr.cmd, Instr.addr, Instr.data, openProgram,
      runMicros_cons, Dirs.put, Dirs.claimed, Levels.put, Levels.low]

/-- The state CLOSE leaves, field by field: each of its five operations writes a direction (R79, R80). -/
theorem completed_closeCmd (s : State) (a d : Word) :
    s.completed (.closeCmd a d) = { s with
      dir := Dirs.released, isOpen := false, busy := false
      cur := ⟨Cmd.closeCmd.code, trunc s.cfg.geom.aw a, trunc s.cfg.geom.ps d⟩, seq := 5, rspValid := false
      events := s.events + 5
      now := (s.completed (.closeCmd a d)).now, trace := (s.completed (.closeCmd a d)).trace } := by
  apply State.ext <;>
    simp [State.completed, State.finish, programOf, program, Instr.cmd, Instr.addr, Instr.data, closeProgram,
      runMicros_cons, Dirs.put, Dirs.released]

/-- Settles O14: a closed idle engine permits OPEN, and `completed_openCmd` names what it leaves. -/
theorem openClaimsTheLines : Obligations.OpenClaimsTheLines := by
  intro s a d hb ho
  exact ⟨_, exec_of_permitted (permitted_openCmd_iff.mpr ⟨hb, ho⟩), completed_openCmd s a d⟩

/-- Settles O16: an open idle engine permits CLOSE, and `completed_closeCmd` names what it leaves. -/
theorem closeReleasesTheLines : Obligations.CloseReleasesTheLines := by
  intro s a d hb ho
  exact ⟨_, exec_of_permitted (permitted_closeCmd_iff.mpr ⟨hb, ho⟩), completed_closeCmd s a d⟩

/-! ### The datapath after WRITE, EWEN and EWDS: their last Transfer's (log 8) -/

/-- Only READ writes the results (R33, R34). -/
theorem finish_results (s : State) {c : Cmd} (hc : c ≠ .read) :
    (s.finish c).rdata = s.rdata ∧ (s.finish c).rraw = s.rraw := by
  cases c with
  | read => exact absurd rfl hc
  | _ => exact ⟨rfl, rfl⟩

theorem completed_results (s : State) {i : Instr} (hc : i.cmd ≠ .read) :
    (s.completed i).rdata = s.rdata ∧ (s.completed i).rraw = s.rraw := by
  simpa [State.completed] using finish_results ((s.accept i).runMicros (programOf s.cfg i)) hc

/-- `tx`, `rx` and `bi` of `t` are what a Transfer of `n` bits of `value` leaves, sampled from `s` after `skip` samples. -/
structure HoldsTransfer (s t : State) (value : Word) (skip n : Nat) : Prop where
  tx : t.tx = value
  rx : t.rx = sampleSum s skip n
  bi : t.bi = 0

/-- After operations that used up `skip` samples, a Transfer of a value that fits it. -/
theorem holdsTransfer_transfer {s u : State} {value : Word} {skip n : Nat} (hv : value < 2 ^ n)
    (hn : n ≤ u.cfg.geom.wmax) (hdi : u.di = s.di.drop skip) (hs : u.samples = s.samples + skip) (p : Params) :
    HoldsTransfer s (u.runMicros (transfer p value n)) value skip n where
  tx := by rw [transfer_tx, trunc_of_lt _ _ (Nat.lt_of_lt_of_le hv (Nat.pow_le_pow_right Nat.two_pos hn))]
  rx := by rw [transfer_rx _ _ _ hn, sampleSum_of_shift (diAt_of_consumed hdi hs), Nat.add_zero]
  bi := transfer_bi _ _ _ hn

/-! Setting a line, waiting and the completion writes leave the datapath alone. -/

section after
variable {s t : State} {value : Word} {skip n : Nat} (h : HoldsTransfer s t value skip n)
include h

theorem HoldsTransfer.micro_set (l : OutLine) (v : Bool) : HoldsTransfer s (t.micro (.set l v)) value skip n :=
  ⟨h.tx, h.rx, h.bi⟩

theorem HoldsTransfer.micro_wait (w : Nat) : HoldsTransfer s (t.micro (.wait w)) value skip n := ⟨h.tx, h.rx, h.bi⟩

theorem HoldsTransfer.finish (c : Cmd) : HoldsTransfer s (t.finish c) value skip n :=
  ⟨(finish_tx t c).trans h.tx, (finish_rx t c).trans h.rx, (finish_bi t c).trans h.bi⟩

end after

section datapath
variable (s : State) (a d : Word)

/-- WRITE's last Transfer sends the data, after the preamble's and the address's samples (R103). -/
theorem completed_write_holds :
    HoldsTransfer s (s.completed (.write a d)) (trunc s.cfg.geom.ps d) (3 + s.cfg.geom.aw) s.cfg.geom.ps := by
  have hprog : programOf s.cfg (.write a d) = (beginTransaction s.cfg wireWrite ++
      transfer s.cfg (addrOperand s.cfg a) s.cfg.geom.aw) ++ (transfer s.cfg (dataOperand s.cfg d) s.cfg.geom.ps ++
      (endTransaction ++ [.wait s.cfg.writeWait])) := by
    simp [programOf, Instr.cmd, Instr.addr, Instr.data, program, writeProgram]
  rw [State.completed, hprog, runMicros_append, runMicros_append _ (transfer _ _ _)]
  have hdata := holdsTransfer_transfer (s := s) (skip := 3 + s.cfg.geom.aw)
    (u := (s.accept (.write a d)).runMicros (beginTransaction s.cfg wireWrite ++
      transfer s.cfg (addrOperand s.cfg a) s.cfg.geom.aw))
    (trunc_lt s.cfg.geom.ps d) (by simp) (by simp [runMicros_append]) (by simp [runMicros_append, Nat.add_assoc]) s.cfg
  exact ((hdata.micro_set .cs false).micro_wait s.cfg.writeWait).finish .write

/-- EWEN's and EWDS's last Transfer sends the payload, after the preamble's samples (R106, R108). -/
theorem controlProgram_holds {payload : Word} (hv : payload < 2 ^ s.cfg.geom.aw) (i : Instr) :
    HoldsTransfer s (((s.accept i).runMicros (beginTransaction s.cfg wireControl ++
      transfer s.cfg payload s.cfg.geom.aw ++ endTransaction)).finish i.cmd) payload 3 s.cfg.geom.aw := by
  rw [runMicros_append, runMicros_append]
  exact ((holdsTransfer_transfer hv (by simp) (by simp) (by simp) s.cfg).micro_set .cs false).finish i.cmd

theorem completed_ewen_holds :
    HoldsTransfer s (s.completed (.ewen a d)) (ones s.cfg.geom.aw) 3 s.cfg.geom.aw :=
  controlProgram_holds s (Nat.sub_lt (Nat.two_pow_pos _) Nat.one_pos) (.ewen a d)

theorem completed_ewds_holds : HoldsTransfer s (s.completed (.ewds a d)) 0 3 s.cfg.geom.aw :=
  controlProgram_holds s (Nat.two_pow_pos _) (.ewds a d)

theorem wireFrame_write_length (p : Params) : (wireFrame p (.write a d)).length = 3 + p.geom.aw + p.geom.ps := by
  simp +arith [wireFrame_write]

theorem wireFrame_ewen_length (p : Params) : (wireFrame p (.ewen a d)).length = 3 + p.geom.aw := by
  simp +arith [wireFrame_ewen]

theorem wireFrame_ewds_length (p : Params) : (wireFrame p (.ewds a d)).length = 3 + p.geom.aw := by
  simp +arith [wireFrame_ewds]

end datapath

/-- A transaction but READ: `completed_transaction` with the datapath of its last Transfer, the results kept. -/
theorem completed_plain_transaction {s : State} {i : Instr} {value : Word} {skip n : Nat}
    (hc : i.cmd.isTransaction = true) (hr : i.cmd ≠ .read) (hb : s.busy = false) (ho : s.isOpen = true)
    (h : HoldsTransfer s (s.completed i) value skip n) :
    s.completed i = { s with
      lvl := ⟨false, false, false, s.lvl.pe⟩
      busy := false
      cur := ⟨i.cmd.code, trunc s.cfg.geom.aw i.addr, trunc s.cfg.geom.ps i.data⟩
      seq := (eventsOf s.cfg i).length
      tx := value, rx := sampleSum s skip n, bi := 0, tmr := 0, rspValid := false
      di := s.di.drop (wireFrame s.cfg i).length, samples := s.samples + (wireFrame s.cfg i).length
      events := s.events + (eventsOf s.cfg i).length
      now := (s.completed i).now, trace := (s.completed i).trace } := by
  obtain ⟨htx, hrx, hbi⟩ := h
  obtain ⟨hrdata, hrraw⟩ := completed_results s hr
  have hframe := completed_transaction hc hb ho
  rwa [htx, hrx, hbi, hrdata, hrraw, decide_eq_false hr] at hframe

/-- Settles O20: the frame of a transaction but READ, its last Transfer being the data's (`completed_write_holds`). -/
theorem writeLeavesResultsAlone : Obligations.WriteLeavesResultsAlone := by
  intro s a d hb ho ps aw
  have hframe := completed_plain_transaction (i := .write a d) rfl nofun hb ho (completed_write_holds s a d)
  have hseq : (eventsOf s.cfg (.write a d)).length = 6 * aw + 6 * ps + 30 := writeEvents_length s.cfg a d
  rw [hseq, wireFrame_write_length] at hframe
  exact ⟨_, exec_of_permitted (permitted_of_isTransaction rfl hb ho), hframe⟩

/-- Settles O22: the frame of a transaction but READ, its last Transfer being EWEN's payload (`completed_ewen_holds`). -/
theorem ewenChangesOnlyLinesAndSequencer : Obligations.EwenChangesOnlyLinesAndSequencer := by
  intro s a d hb ho ps aw
  have hframe := completed_plain_transaction (i := .ewen a d) rfl nofun hb ho (completed_ewen_holds s a d)
  have hseq : (eventsOf s.cfg (.ewen a d)).length = 6 * aw + 28 := ewenEvents_length s.cfg
  rw [hseq, wireFrame_ewen_length] at hframe
  exact ⟨_, exec_of_permitted (permitted_of_isTransaction rfl hb ho), hframe⟩

/-- Settles O24: the frame of a transaction but READ, its last Transfer being EWDS's payload (`completed_ewds_holds`). -/
theorem ewdsChangesOnlyLinesAndSequencer : Obligations.EwdsChangesOnlyLinesAndSequencer := by
  intro s a d hb ho ps aw
  have hframe := completed_plain_transaction (i := .ewds a d) rfl nofun hb ho (completed_ewds_holds s a d)
  have hseq : (eventsOf s.cfg (.ewds a d)).length = 6 * aw + 28 := ewdsEvents_length s.cfg
  rw [hseq, wireFrame_ewds_length] at hframe
  exact ⟨_, exec_of_permitted (permitted_of_isTransaction rfl hb ho), hframe⟩

/-! ### A Transfer, event by event -/

/-- Settles O30, by the list of a Transfer (`transfer_eventTrace`) and its length. -/
theorem transferPerformsItsCells : Obligations.TransferPerformsItsCells := by
  intro s value n hn
  exact ⟨transfer_eventTrace s s.cfg value hn, transferEvents_length s.cfg value n⟩

/-- The state as a Transfer of `n` bits of `value` finds it, one position above its first bit (R31). -/
def State.loaded (s : State) (value : Word) (n : Nat) : State :=
  { s with tx := trunc s.cfg.geom.wmax value, rx := 0, bi := n }

section midTransfer
variable (s : State) (p : Params)

/-- The first cell is a later cell of the loaded state: the two SAMPLEs differ in the loading alone (R31, R84). -/
theorem transfer_take_eq_laterCells {n : Nat} (value : Word) (hn : n + 1 ≤ s.cfg.geom.wmax) (k : Nat) :
    s.runMicros ((transfer p value (n + 1)).take (k + 1)) =
      (s.loaded value (n + 1)).runMicros ((laterCells p (n + 1)).take (k + 1)) := by
  have hfirst : s.micro (.firstSample value (n + 1)) = (s.loaded value (n + 1)).micro .nextSample := by
    have hbi : trunc s.cfg.geom.biWidth (n + 1 - 1) = n + 1 - 1 := trunc_biWidth hn
    simp only [State.micro, State.perform, State.startTransfer, hbi]
    rfl
  rw [transfer, laterCells, List.take_succ_cons, List.take_succ_cons, runMicros_cons, runMicros_cons, hfirst]

/-- Steps 2 to 4 of a bit cell leave the datapath alone, at each of their events (R84). -/
theorem cellTail_take_datapath (e : Nat) :
    (s.runMicros ((cellTail p).take e)).tx = s.tx ∧ (s.runMicros ((cellTail p).take e)).rx = s.rx ∧
      (s.runMicros ((cellTail p).take e)).bi = s.bi := by
  match e with
  | 0 | 1 | 2 | 3 | 4 | e + 5 => simp [cellTail, runMicros_cons]

/-- With `n` cells to go and the samples so far, `r`, above `n` free places: `e` events into the cell of bit `n-1-m`. -/
theorem laterCells_take_datapath {n m e r : Nat} (hm : m < n) (he : e < 6) (hbi : s.bi = n) (hrx : s.rx = r * 2 ^ n)
    (hr : (r + 1) * 2 ^ n ≤ 2 ^ s.cfg.geom.wmax) :
    let t := s.runMicros ((laterCells p n).take (6 * m + (e + 1)))
    t.tx = s.tx ∧ t.bi = n - 1 - m ∧
      t.rx = r * 2 ^ n + ∑ j ∈ Finset.range (m + 1), (s.diAt j).toNat * 2 ^ (n - 1 - j) := by
  induction n generalizing s r m with
  | zero => cases hm
  | succ n ih =>
    obtain ⟨hcap, hfree⟩ := capture_below (s.diAt 0) hr
    cases m with
    | zero =>
      obtain ⟨htx, hrx', hbi'⟩ := cellTail_take_datapath (s.micro .nextSample) p e
      have htake : (laterCells p (n + 1)).take (6 * 0 + (e + 1)) = .nextSample :: (cellTail p).take e := by
        rw [Nat.mul_zero, Nat.zero_add, laterCells, List.take_succ_cons,
          List.take_append_of_le_length (by simpa using Nat.le_of_lt_succ he)]
      dsimp only
      rw [htake, runMicros_cons, htx, hrx', hbi', micro_nextSample_tx, micro_nextSample_rx, micro_nextSample_bi, hrx, hbi,
        Nat.add_sub_cancel, hcap]
      refine ⟨rfl, rfl, ?_⟩
      simp
      ring
    | succ m =>
      have htake : (laterCells p (n + 1)).take (6 * (m + 1) + (e + 1)) =
          .nextSample :: (cellTail p ++ (laterCells p n).take (6 * m + (e + 1))) := by
        rw [show 6 * (m + 1) + (e + 1) = (cellTail p).length + (6 * m + (e + 1)) + 1 by rw [cellTail_length]; omega,
          laterCells, List.take_succ_cons, List.take_length_add_append]
      obtain ⟨htx, hbi', hrx'⟩ := ih ((s.micro .nextSample).runMicros (cellTail p)) (r := 2 * r + (s.diAt 0).toNat)
        (Nat.lt_of_succ_lt_succ hm) (by simp [hbi]) (by simp [hrx, hbi, hcap]) (by simpa using hfree)
      have hnext (j : Nat) : ((s.micro .nextSample).runMicros (cellTail p)).diAt j = s.diAt (j + 1) := by
        rw [diAt_of_consumed (s := s) (k := 1) (by simp) (by simp), Nat.add_comm]
      rw [htake, runMicros_cons, runMicros_append]
      refine ⟨by simpa using htx, by omega, ?_⟩
      rw [hrx', Finset.sum_range_succ' _ (m + 1)]
      simp only [hnext, Nat.add_sub_cancel, Nat.sub_zero, Nat.sub_add_eq, Nat.sub_right_comm n]
      ring

end midTransfer

/-- Settles O31: the Transfer is its later cells from the loaded state (`transfer_take_eq_laterCells`), which start with no
sample above them. -/
theorem datapathHoldsTransferVariables : Obligations.DatapathHoldsTransferVariables := by
  intro s value n m e hn hm he1 he6
  obtain ⟨n, rfl⟩ := Nat.exists_eq_add_of_lt (Nat.zero_lt_of_lt hm)
  obtain ⟨e, rfl⟩ := Nat.exists_eq_add_of_le' he1
  rw [Nat.zero_add] at hn hm ⊢
  have hload : s.runMicros ((transfer s.cfg value (n + 1)).take (6 * m + (e + 1))) =
      (s.loaded value (n + 1)).runMicros ((laterCells s.cfg (n + 1)).take (6 * m + (e + 1))) :=
    transfer_take_eq_laterCells s s.cfg value hn (6 * m + e)
  have hcells := laterCells_take_datapath (s.loaded value (n + 1)) s.cfg (r := 0) hm he6 rfl (Nat.zero_mul _).symm
    (by simpa [State.loaded] using Nat.pow_le_pow_right Nat.two_pos hn)
  rw [← hload, Nat.zero_mul, Nat.zero_add] at hcells
  exact hcells

end Sys2Proof.Machine
end

section
/-! The shape of a transaction on the wire (spec/42_framer.md R93 to R99): the pre-pulse, CS's rise, the fields of the frame,
CS's fall and, after a WRITE, its wait. What changes when CLK is low (spec/41_bit_transfer.md R89) and what no event does
(spec/40_lifecycle.md R82). -/

namespace Sys2Proof.Machine

/-! ### The events of the frame's fields -/

/-- The events that send one field of the frame: its cells, and DO low at the end of its Transfer (R86). -/
def fieldEvents (p : Params) (bits : List Bool) : List Event := bits.flatMap (cellEvents p) ++ [.set .dout false]

/-- The events up to the rise of CS, event 6 (R93, R94). -/
def headEvents (p : Params) : List Event := prePulseEvents p ++ [.set .cs true]

/-- The events between the rise and the fall of CS. -/
def frameEvents (p : Params) (i : Instr) : List Event := ((wireFields p i).map (fieldEvents p)).flatten

/-- The events after the fall of CS: the write wait of a WRITE (R104). -/
def tailEvents (p : Params) (c : Cmd) : List Event := if c = .write then [.wait (p.tWriteCount * p.writeUnit)] else []

section fields
variable (p : Params)

theorem transferEvents_eq_fieldEvents (value : Word) (n : Nat) :
    transferEvents p value n = fieldEvents p (msbBits n value) := by
  induction n with
  | zero => rfl
  | succ n ih => simp [transferEvents, ih, fieldEvents, msbBits]

theorem beginEvents_eq_fieldEvents (o1 o0 : Bool) :
    beginEvents p o1 o0 = headEvents p ++ fieldEvents p [true, o1, o0] := by
  simp [beginEvents, headEvents, fieldEvents]

/-- R93 to R98: the list of every transaction command. -/
theorem eventsOf_transaction {i : Instr} (hc : i.cmd.isTransaction = true) :
    eventsOf p i = headEvents p ++ (frameEvents p i ++ .set .cs false :: tailEvents p i.cmd) := by
  cases i with
  | openCmd a d => cases hc
  | closeCmd a d => cases hc
  | read a d =>
    simp [eventsOf, readEvents, beginEvents_eq_fieldEvents, transferEvents_eq_fieldEvents, frameEvents, wireFields,
      tailEvents, Instr.cmd]
  | write a d =>
    simp [eventsOf, writeEvents, beginEvents_eq_fieldEvents, transferEvents_eq_fieldEvents, frameEvents, wireFields,
      tailEvents, Instr.cmd]
  | ewen a d =>
    simp [eventsOf, ewenEvents_eq, beginEvents_eq_fieldEvents, transferEvents_eq_fieldEvents, frameEvents, wireFields,
      tailEvents, Instr.cmd]
  | ewds a d =>
    simp [eventsOf, ewdsEvents_eq, beginEvents_eq_fieldEvents, transferEvents_eq_fieldEvents, frameEvents, wireFields,
      tailEvents, Instr.cmd]

/-- The frame's events are cells, and `SET(DO, 0)`. -/
theorem mem_frameEvents {i : Instr} {e : Event} (h : e ∈ frameEvents p i) :
    (∃ b, e ∈ cellEvents p b) ∨ e = .set .dout false := by
  simp only [frameEvents, List.mem_flatten, List.mem_map] at h
  obtain ⟨_, ⟨bits, -, rfl⟩, h⟩ := h
  simp only [fieldEvents, List.mem_append, List.mem_flatMap, List.mem_singleton] at h
  exact h.imp_left fun ⟨b, _, hb⟩ => ⟨b, hb⟩

end fields

@[simp] theorem headEvents_length (p : Params) : (headEvents p).length = 7 := rfl

section positions
variable (p : Params) {i : Instr} (hc : i.cmd.isTransaction = true)
include hc

theorem eventsOf_take_head : (eventsOf p i).take 7 = headEvents p := by
  rw [eventsOf_transaction p hc]
  exact List.take_left' rfl

theorem eventsOf_take_fall :
    (eventsOf p i).take (7 + (frameEvents p i).length + 1) = headEvents p ++ (frameEvents p i ++ [.set .cs false]) := by
  rw [eventsOf_transaction p hc, ← List.singleton_append, ← List.append_assoc (frameEvents p i), ← List.append_assoc]
  exact List.take_left' (by simp; omega)

theorem eventsOf_getElem?_fall : (eventsOf p i)[7 + (frameEvents p i).length]? = some (.set .cs false) := by
  rw [eventsOf_transaction p hc, List.getElem?_append_right (by simp), headEvents_length, Nat.add_sub_cancel_left,
    List.getElem?_append_right (Nat.le_refl _), Nat.sub_self]
  rfl

theorem eventsOf_frame : ((eventsOf p i).take (7 + (frameEvents p i).length)).drop 7 = frameEvents p i := by
  rw [eventsOf_transaction p hc, ← List.append_assoc, List.take_left' (by simp)]
  exact List.drop_left' rfl

end positions

/-! ### The latches over the frame -/

section latches
variable (v : Levels) (p : Params)

/-- A field leaves CLK and DO low, CS and PE as they were (R85). -/
theorem levelsAfter_fieldEvents (bits : List Bool) (hclk : v.clk = false) :
    levelsAfter v (fieldEvents p bits) = ⟨v.cs, false, false, v.pe⟩ := by
  induction bits generalizing v with
  | nil => simp [fieldEvents, levelsAfter, Levels.after, Levels.put, hclk]
  | cons b bits ih =>
    have hcell : levelsAfter v (cellEvents p b) = ⟨v.cs, false, b, v.pe⟩ := rfl
    rw [fieldEvents, List.flatMap_cons, List.append_assoc, levelsAfter_append, hcell]
    exact ih ⟨v.cs, false, b, v.pe⟩ rfl

/-- The pre-pulse sets CS, CLK and DO whatever they were (R93, R94). -/
@[simp] theorem levelsAfter_headEvents : levelsAfter v (headEvents p) = ⟨true, false, false, v.pe⟩ := rfl

theorem levelsAfter_frameEvents {i : Instr} (hclk : v.clk = false) (hdo : v.dout = false) :
    levelsAfter v (frameEvents p i) = v := by
  have hlow : (⟨v.cs, false, false, v.pe⟩ : Levels) = v := by cases v; simp_all
  unfold frameEvents
  induction wireFields p i with
  | nil => rfl
  | cons bits fields ih =>
    rw [List.map_cons, List.flatten_cons, levelsAfter_append, levelsAfter_fieldEvents v p bits hclk, hlow, ih]

/-! ### Where a latch turns -/

theorem edges_append (l : OutLine) (x : Bool) (k : Nat) (es fs : List Event) :
    edges l x v k (es ++ fs) = edges l x v k es ++ edges l x (levelsAfter v es) (k + es.length) fs := by
  induction es generalizing v k with
  | nil => rfl
  | cons e es ih =>
    have hlen : k + 1 + es.length = k + (e :: es).length := by rw [List.length_cons]; omega
    rw [List.cons_append, edges, edges, ih, hlen]
    split <;> rfl

/-- Events that set other latches turn this one nowhere. -/
theorem edges_eq_nil (l : OutLine) (x : Bool) (k : Nat) {es : List Event} (h : ∀ e ∈ es, ∀ y, e ≠ .set l y) :
    edges l x v k es = [] := by
  induction es generalizing v k with
  | nil => rfl
  | cons e es ih =>
    have hsame : (v.after e).get l = v.get l := by
      cases e with
      | set m y =>
        have hne : l ≠ m := fun hl => h _ (List.mem_cons_self ..) y (by rw [hl])
        exact Levels.get_put_of_ne v m l y hne
      | dir m d => rfl
      | sample => rfl
      | wait t => rfl
    rw [edges, hsame, ih _ _ fun e' he' => h e' (List.mem_cons_of_mem _ he')]
    simp

theorem frameEvents_ne_set_cs {i : Instr} {e : Event} (h : e ∈ frameEvents p i) (y : Bool) : e ≠ .set .cs y := by
  obtain ⟨b, hb⟩ | rfl := mem_frameEvents p h
  · simp only [cellEvents, List.mem_cons, List.not_mem_nil, or_false] at hb
    rintro rfl
    simp at hb
  · nofun

theorem tailEvents_ne_set {c : Cmd} {e : Event} (h : e ∈ tailEvents p c) (l : OutLine) (y : Bool) : e ≠ .set l y := by
  rintro rfl
  simp [tailEvents] at h

end latches

/-- Settles O35: CS's fall, event `f`, comes right after the frame's events, which leave CS alone and end with CLK and DO
low. -/
theorem chipSelectFramesOneTransaction : Obligations.ChipSelectFramesOneTransaction := by
  intro p i pe hc
  have hframe : levelsAfter ⟨true, false, false, pe⟩ (frameEvents p i) = ⟨true, false, false, pe⟩ :=
    levelsAfter_frameEvents _ p rfl rfl
  have hframeEdges (x : Bool) (k : Nat) : edges .cs x ⟨true, false, false, pe⟩ k (frameEvents p i) = [] :=
    edges_eq_nil _ _ _ _ fun _ he => frameEvents_ne_set_cs p he
  have htailEdges (x : Bool) (k : Nat) : edges .cs x ⟨false, false, false, pe⟩ k (tailEvents p i.cmd) = [] :=
    edges_eq_nil _ _ _ _ fun _ he => tailEvents_ne_set p he _
  have hfall (x : Bool) (k : Nat) : edges .cs x ⟨true, false, false, pe⟩ k (.set .cs false :: tailEvents p i.cmd) =
      if x then [] else [k] := by
    cases x <;> simp [edges, Levels.after, Levels.put, Levels.get, htailEdges]
  have hrise (x : Bool) : edges .cs x ⟨false, false, false, pe⟩ 0 (headEvents p) = if x then [6] else [] := by
    cases x <;> rfl
  refine ⟨7 + (frameEvents p i).length, ?_, ?_, eventsOf_getElem?_fall p hc, by omega, ?_, ?_, eventsOf_frame p hc⟩
  · simp [eventsOf_transaction p hc, edges_append, hframe, hframeEdges, hfall, hrise]
  · simp [eventsOf_transaction p hc, edges_append, hframe, hframeEdges, hfall, hrise]
  · rw [eventsOf_take_head p hc, levelsAfter_headEvents]
  · rw [eventsOf_take_fall p hc, levelsAfter_append, levelsAfter_headEvents, levelsAfter_append, hframe]
    rfl

/-! ### Setting lines while CLK is low (R89) -/

/-- From latches `v`, every line but CLK is set while CLK is low. -/
def SetsWhileClockLow : Levels → List Event → Prop
  | _, [] => True
  | v, e :: es => (∀ l x, e = .set l x → l ≠ .clk → v.clk = false) ∧ SetsWhileClockLow (v.after e) es

section clockLow
variable (v : Levels) (p : Params)

theorem setsWhileClockLow_append {es fs : List Event} (h : SetsWhileClockLow v es)
    (h' : SetsWhileClockLow (levelsAfter v es) fs) : SetsWhileClockLow v (es ++ fs) := by
  induction es generalizing v with
  | nil => exact h'
  | cons e es ih =>
    obtain ⟨hfirst, hrest⟩ := h
    exact ⟨hfirst, ih _ hrest h'⟩

theorem SetsWhileClockLow.getElem? {v : Levels} {es : List Event} (h : SetsWhileClockLow v es) {k : Nat} {l : OutLine}
    {x : Bool} (hk : es[k]? = some (.set l x)) (hl : l ≠ .clk) : (levelsAfter v (es.take k)).clk = false := by
  induction es generalizing v k with
  | nil => cases hk
  | cons e es ih =>
    obtain ⟨hfirst, hrest⟩ := h
    cases k with
    | zero => exact hfirst l x (Option.some.inj hk) hl
    | succ k => exact ih hrest hk

theorem setsWhileClockLow_headEvents (hclk : v.clk = false) : SetsWhileClockLow v (headEvents p) := by
  simp [headEvents, prePulseEvents, SetsWhileClockLow, Levels.after, Levels.put, hclk]

theorem setsWhileClockLow_cellEvents (b : Bool) (hclk : v.clk = false) : SetsWhileClockLow v (cellEvents p b) := by
  simp [cellEvents, SetsWhileClockLow, Levels.after, Levels.put, hclk]

theorem setsWhileClockLow_fieldEvents (bits : List Bool) (hclk : v.clk = false) :
    SetsWhileClockLow v (fieldEvents p bits) := by
  induction bits generalizing v with
  | nil => exact ⟨fun _ _ _ _ => hclk, trivial⟩
  | cons b bits ih =>
    rw [fieldEvents, List.flatMap_cons, List.append_assoc]
    exact setsWhileClockLow_append _ (setsWhileClockLow_cellEvents v p b hclk) (ih ⟨v.cs, false, b, v.pe⟩ rfl)

theorem setsWhileClockLow_frameEvents {i : Instr} (hclk : v.clk = false) : SetsWhileClockLow v (frameEvents p i) := by
  unfold frameEvents
  induction wireFields p i generalizing v with
  | nil => trivial
  | cons bits fields ih =>
    refine setsWhileClockLow_append _ (setsWhileClockLow_fieldEvents v p bits hclk) (ih _ ?_)
    rw [levelsAfter_fieldEvents v p bits hclk]

/-- After the frame: CS falls with CLK low, and a wait sets nothing. -/
theorem setsWhileClockLow_fall (c : Cmd) (hclk : v.clk = false) :
    SetsWhileClockLow v (.set .cs false :: tailEvents p c) := by
  refine ⟨fun _ _ _ _ => hclk, ?_⟩
  unfold tailEvents
  split
  · exact ⟨nofun, trivial⟩
  · trivial

theorem setsWhileClockLow_eventsOf (i : Instr) (hclk : v.clk = false) : SetsWhileClockLow v (eventsOf p i) := by
  have htransaction (hc : i.cmd.isTransaction = true) : SetsWhileClockLow v (eventsOf p i) := by
    rw [eventsOf_transaction p hc]
    refine setsWhileClockLow_append _ (setsWhileClockLow_headEvents v p hclk)
      (setsWhileClockLow_append _ (setsWhileClockLow_frameEvents _ p rfl) (setsWhileClockLow_fall _ p _ ?_))
    rw [levelsAfter_headEvents, levelsAfter_frameEvents _ p rfl rfl]
  cases i with
  | openCmd a d => simp [eventsOf, openEvents, SetsWhileClockLow, Levels.after, Levels.put, hclk]
  | closeCmd a d => simp [eventsOf, closeEvents, SetsWhileClockLow]
  | _ => exact htransaction rfl

end clockLow

/-- Settles O36: each unit of a list starts and ends with CLK low and sets no other line in between while it is high
(`setsWhileClockLow_eventsOf`). -/
theorem dataAndSelectChangeWhileClockLow : Obligations.DataAndSelectChangeWhileClockLow := by
  intro p i v k l x hclk hl hk
  exact (setsWhileClockLow_eventsOf v p i hclk).getElem? hk hl

end Sys2Proof.Machine
end

section
/-! The entries a list of micro-operations adds to the trace (spec/00_scope.md R15), their times (R16), and the time a
command takes. -/

namespace Sys2Proof.Machine

/-- The entries that a list of micro-operations adds to the trace. -/
def State.entries (s : State) : List Micro → List TraceEntry
  | [] => []
  | m :: ms => ⟨s.now + Config.gap s.events, m.event s, m.level s⟩ :: (s.micro m).entries ms

section entries
variable (s : State) (ms ns : List Micro)

theorem runMicros_trace : (s.runMicros ms).trace = s.trace ++ s.entries ms := by
  induction ms generalizing s with
  | nil => exact (List.append_nil _).symm
  | cons m ms ih => rw [runMicros_cons, ih, micro_trace, State.entries, List.append_assoc]; rfl

theorem entries_take (k : Nat) : s.entries (ms.take k) = (s.entries ms).take k := by
  induction ms generalizing s k with
  | nil => simp [State.entries]
  | cons m ms ih =>
    cases k with
    | zero => rfl
    | succ k => rw [List.take_succ_cons, State.entries, State.entries, List.take_succ_cons, ih]

/-- The events of the entries, where the events of the list are known. -/
theorem entries_events {es : List Event} (h : (s.runMicros ms).eventTrace = s.eventTrace ++ es) :
    (s.entries ms).map (·.event) = es := by
  rw [State.eventTrace, runMicros_trace, List.map_append] at h
  exact List.append_cancel_left h

/-- A part of a list performs as many of the list's events as it has operations. -/
theorem runMicros_take_eventTrace {es : List Event} (k : Nat) (h : (s.runMicros ms).eventTrace = s.eventTrace ++ es) :
    (s.runMicros (ms.take k)).eventTrace = s.eventTrace ++ es.take k := by
  rw [State.eventTrace, runMicros_trace, entries_take, List.map_append, List.map_take, entries_events s ms h]
  rfl

/-- R16: a run takes its waits, and a gap before each event. -/
theorem runMicros_now :
    (s.runMicros ms).now = s.now + (waitSum ((s.entries ms).map (·.event)) : Rat) +
      ∑ j ∈ Finset.range ms.length, Config.gap (s.events + j) := by
  induction ms generalizing s with
  | nil => simp [State.entries]
  | cons m ms ih =>
    rw [runMicros_cons, ih, micro_now, micro_events, State.entries, List.map_cons, waitSum_cons, List.length_cons,
      Finset.sum_range_succ']
    simp only [Nat.add_assoc s.events, Nat.add_comm 1, Nat.add_zero]
    push_cast
    ring

end entries

/-! ### Entries that do not overlap -/

/-- From time `a` on and before `b`: each entry no earlier than the end of the one before (R16). -/
def Spaced (a : Rat) : List TraceEntry → Rat → Prop
  | [], b => a ≤ b
  | x :: l, b => a ≤ x.time ∧ Spaced (x.time + (x.event.duration : Rat)) l b

section spaced
variable {a b : Rat} {l l' : List TraceEntry} {x y : TraceEntry}

theorem spaced_entries (s : State) (ms : List Micro) : Spaced s.now (s.entries ms) (s.runMicros ms).now := by
  induction ms generalizing s with
  | nil => exact le_refl s.now
  | cons m ms ih =>
    have hrest := ih (s.micro m)
    rw [micro_now] at hrest
    exact ⟨le_add_of_nonneg_right (gap_nonneg _), hrest⟩

/-- Entries that do not overlap take at least their waits. -/
theorem Spaced.waitSum_le (h : Spaced a l b) : a + (waitSum (l.map (·.event)) : Rat) ≤ b := by
  induction l generalizing a with
  | nil => rwa [List.map_nil, waitSum_nil, Nat.cast_zero, add_zero]
  | cons x l ih =>
    obtain ⟨hx, hl⟩ := h
    rw [List.map_cons, waitSum_cons, Nat.cast_add]
    linarith [ih hl]

/-- An entry splits what is spaced into what comes before it and what comes after its end. -/
theorem Spaced.split (h : Spaced a (l ++ x :: l') b) :
    Spaced a l x.time ∧ Spaced (x.time + (x.event.duration : Rat)) l' b := by
  induction l generalizing a with
  | nil => exact h
  | cons z l ih =>
    obtain ⟨hz, hl⟩ := h
    exact ⟨⟨hz, (ih hl).1⟩, (ih hl).2⟩

theorem Spaced.le_time (h : Spaced a l b) (hx : x ∈ l) : a ≤ x.time := by
  induction l generalizing a with
  | nil => cases hx
  | cons z l ih =>
    obtain ⟨hz, hl⟩ := h
    obtain rfl | hx := List.mem_cons.mp hx
    · exact hz
    · exact (le_add_of_le_of_nonneg hz (Nat.cast_nonneg _)).trans (ih hl hx)

/-- Of two entries the later comes after the end of the earlier. -/
theorem Spaced.time_le (h : Spaced a l b) {j k : Nat} (hj : l[j]? = some x) (hk : l[k]? = some y) (hjk : j < k) :
    x.time + (x.event.duration : Rat) ≤ y.time := by
  induction l generalizing a j k with
  | nil => cases hj
  | cons z l ih =>
    obtain ⟨-, hl⟩ := h
    cases k with
    | zero => cases hjk
    | succ k =>
      cases j with
      | zero =>
        obtain rfl : z = x := Option.some.inj hj
        exact hl.le_time (List.mem_of_getElem? hk)
      | succ j => exact ih hl hj hk (Nat.lt_of_succ_lt_succ hjk)

theorem Spaced.getLast_le (h : Spaced a l b) (hx : l.getLast? = some x) : x.time + (x.event.duration : Rat) ≤ b := by
  obtain ⟨l, rfl⟩ := List.getLast?_eq_some_iff.mp hx
  exact h.split.2

end spaced

@[simp] theorem finish_now (s : State) (c : Cmd) : (s.finish c).now = s.now := by cases c <;> rfl

/-- What a permitted command adds to the trace: `E(cmd)`, spaced from its acceptance to its end. -/
theorem completed_trace (s : State) (i : Instr) :
    ∃ l, (s.completed i).trace = s.trace ++ l ∧ l.map (·.event) = eventsOf s.cfg i ∧
      Spaced s.now l (s.completed i).now := by
  refine ⟨(s.accept i).entries (programOf s.cfg i), ?_, ?_, ?_⟩
  · rw [State.completed, finish_trace, runMicros_trace, accept_trace]
  · exact entries_events _ _ (programOf_eventTrace (s.accept i) i)
  · rw [State.completed, finish_now]
    exact spaced_entries (s.accept i) _

theorem eventsOf_ne_nil (p : Params) (i : Instr) : eventsOf p i ≠ [] := by
  cases i with
  | openCmd a d => exact List.cons_ne_nil _ _
  | closeCmd a d => exact List.cons_ne_nil _ _
  | _ =>
    rw [eventsOf_transaction p rfl]
    exact List.cons_ne_nil _ _

/-- Settles O40: the entries a command adds are spaced from its acceptance to its end (`completed_trace`). -/
theorem eventsAreSpacedByTheirWaits : Obligations.EventsAreSpacedByTheirWaits := by
  intro s t i hp h
  obtain ⟨-, rfl⟩ := exec_eq_completed hp.1 h
  obtain ⟨l, htrace, hevents, hl⟩ := completed_trace s i
  refine ⟨l, htrace, ?_, fun x hx => hl.le_time (List.mem_of_head? hx), fun k x y hx hy =>
    hl.time_le hx hy (Nat.lt_succ_self k), fun x hx => hl.getLast_le hx⟩
  rintro rfl
  exact eventsOf_ne_nil s.cfg i hevents.symm

/-! ### CS between two transactions (R54, R98) -/

/-- The last `SET(CS, 0)` of a transaction's entries is the one at the end of its frame. -/
theorem find?_fall {l l1 l2 : List TraceEntry} {fall : TraceEntry} {p : Params} {c : Cmd} (hl : l = l1 ++ fall :: l2)
    (hfall : fall.event = .set .cs false) (htail : l2.map (·.event) = tailEvents p c) :
    l.reverse.find? (fun x => x.event == .set .cs false) = some fall := by
  have hnone : l2.reverse.find? (fun x => x.event == .set .cs false) = none := by
    rw [List.find?_eq_none]
    intro x hx
    have hmem : x.event ∈ tailEvents p c := htail ▸ List.mem_map_of_mem (List.mem_reverse.mp hx)
    simpa using tailEvents_ne_set p hmem .cs false
  simp [hl, hnone, hfall]

theorem waitSum_tailEvents (p : Params) (c : Cmd) :
    waitSum (tailEvents p c) = if c = .write then p.tWriteCount * p.writeUnit else 0 := by
  unfold tailEvents
  split <;> simp

section spacing
variable {p : Params} {i : Instr} {l : List TraceEntry} {a b : Rat} (hc : i.cmd.isTransaction = true)
  (hevents : l.map (·.event) = eventsOf p i) (h : Spaced a l b)
include hc hevents h

/-- After CS's fall a transaction lasts at least its write wait (R104). -/
theorem exists_fall : ∃ fall, l.reverse.find? (fun x => x.event == .set .cs false) = some fall ∧
    fall.time + ((if i.cmd = .write then p.tWriteCount * p.writeUnit else 0 : Nat) : Rat) ≤ b := by
  rw [eventsOf_transaction p hc, ← List.append_assoc] at hevents
  obtain ⟨l1, l2, rfl, -, hl2⟩ := List.map_eq_append_iff.mp hevents
  obtain ⟨fall, l2, rfl, hfall, htail⟩ := List.map_eq_cons_iff.mp hl2
  refine ⟨fall, find?_fall rfl hfall htail, ?_⟩
  have hend := h.split.2.waitSum_le
  rw [htail, waitSum_tailEvents, hfall, duration_set, Nat.cast_zero, add_zero] at hend
  exact hend

/-- Before CS's rise, event 6, a transaction lasts at least its pre-pulse (R93). -/
theorem exists_rise : ∃ rise, l[6]? = some rise ∧ rise.event = .set .cs true ∧
    a + ((p.tPre1 + p.tPre2 : Nat) : Rat) ≤ rise.time := by
  rw [eventsOf_transaction p hc, headEvents, List.append_assoc] at hevents
  obtain ⟨l1, l2, rfl, hl1, hl2⟩ := List.map_eq_append_iff.mp hevents
  obtain ⟨rise, l2, rfl, hrise, -⟩ := List.map_eq_cons_iff.mp hl2
  have hlen : l1.length = 6 := by simpa [prePulseEvents] using congrArg List.length hl1
  refine ⟨rise, ?_, hrise, ?_⟩
  · rw [List.getElem?_append_right hlen.le, hlen]
    rfl
  · simpa [hl1] using h.split.1.waitSum_le

end spacing

/-- Settles O42: the second transaction starts when the first has ended (`exists_fall`), and its CS rises after its
pre-pulse (`exists_rise`). -/
theorem chipSelectLowBetweenTransactions : Obligations.ChipSelectLowBetweenTransactions := by
  intro s i j hb ho hci hcj
  have hpi : Permitted s i := permitted_of_isTransaction hci hb ho
  have hpj : Permitted (s.completed i) j :=
    permitted_of_isTransaction hcj (completed_busy s i) (completed_isOpen_of_isTransaction hci hpi)
  obtain ⟨l, hltrace, hlevents, hl⟩ := completed_trace s i
  obtain ⟨m, hmtrace, hmevents, hm⟩ := completed_trace (s.completed i) j
  obtain ⟨fall, hfall, hend⟩ := exists_fall hci hlevents hl
  obtain ⟨rise, hrise, hriseEvent, hstart⟩ := exists_rise hcj hmevents hm
  refine ⟨_, _, l, m, fall, rise, exec_of_permitted hpi, exec_of_permitted hpj, hltrace, hmtrace, hfall, hrise,
    hriseEvent, ?_⟩
  rw [completed_cfg] at hstart
  rw [Nat.cast_add]
  linarith

/-! ### Half a period around each clock pulse of the frame (R136, R137) -/

/-- Each rise of CLK stands between two waits of `h`. -/
def PulsesBetweenWaits (h : Nat) (es : List Event) : Prop :=
  ∀ k, es[k]? = some (.set .clk true) →
    ∃ j, k = j + 1 ∧ es[j]? = some (.wait h) ∧ es[k + 1]? = some (.wait h)

section pulses
variable {h : Nat} {es fs : List Event}

theorem pulsesBetweenWaits_of_not_mem (hes : .set .clk true ∉ es) : PulsesBetweenWaits h es :=
  fun _ hk => absurd (List.mem_of_getElem? hk) hes

theorem pulsesBetweenWaits_append (hes : PulsesBetweenWaits h es) (hfs : PulsesBetweenWaits h fs) :
    PulsesBetweenWaits h (es ++ fs) := by
  intro k hk
  by_cases hlt : k < es.length
  · rw [List.getElem?_append_left hlt] at hk
    obtain ⟨j, rfl, hj, hnext⟩ := hes k hk
    have hlt' : j + 1 + 1 < es.length := List.getElem?_eq_some_iff.mp hnext |>.1
    exact ⟨j, rfl, by rw [List.getElem?_append_left (by omega), hj], by rw [List.getElem?_append_left hlt', hnext]⟩
  · obtain ⟨n, rfl⟩ := Nat.exists_eq_add_of_le (Nat.le_of_not_lt hlt)
    rw [List.getElem?_append_right (by omega), Nat.add_sub_cancel_left] at hk
    obtain ⟨j, rfl, hj, hnext⟩ := hfs n hk
    refine ⟨es.length + j, rfl, ?_, ?_⟩
    · rw [List.getElem?_append_right (by omega), Nat.add_sub_cancel_left, hj]
    · rw [List.getElem?_append_right (by omega), show es.length + (j + 1) + 1 - es.length = j + 1 + 1 by omega, hnext]

theorem pulsesBetweenWaits_flatten {ess : List (List Event)} (hess : ∀ es ∈ ess, PulsesBetweenWaits h es) :
    PulsesBetweenWaits h ess.flatten := by
  induction ess with
  | nil => exact pulsesBetweenWaits_of_not_mem (List.not_mem_nil)
  | cons es ess ih =>
    rw [List.forall_mem_cons] at hess
    exact pulsesBetweenWaits_append hess.1 (ih hess.2)

end pulses

section framePulses
variable (p : Params)

theorem pulsesBetweenWaits_cellEvents (b : Bool) : PulsesBetweenWaits p.tHalf (cellEvents p b) := by
  intro k hk
  match k with
  | 3 => exact ⟨2, rfl, rfl, rfl⟩
  | 0 | 1 | 2 | 4 | 5 | k + 6 => simp [cellEvents] at hk

theorem pulsesBetweenWaits_fieldEvents (bits : List Bool) : PulsesBetweenWaits p.tHalf (fieldEvents p bits) := by
  refine pulsesBetweenWaits_append ?_ (pulsesBetweenWaits_of_not_mem (by simp))
  rw [List.flatMap_def]
  refine pulsesBetweenWaits_flatten fun es hes => ?_
  obtain ⟨b, -, rfl⟩ := List.mem_map.mp hes
  exact pulsesBetweenWaits_cellEvents p b

theorem pulsesBetweenWaits_frameEvents (i : Instr) : PulsesBetweenWaits p.tHalf (frameEvents p i) := by
  refine pulsesBetweenWaits_flatten fun es hes => ?_
  obtain ⟨bits, -, rfl⟩ := List.mem_map.mp hes
  exact pulsesBetweenWaits_fieldEvents p bits

/-- After event 6 every rise of CLK is a cell's. -/
theorem eventsOf_pulse {i : Instr} (hc : i.cmd.isTransaction = true) {k : Nat} (hk : 6 < k)
    (h : (eventsOf p i)[k]? = some (.set .clk true)) :
    ∃ j, k = j + 1 ∧ (eventsOf p i)[j]? = some (.wait p.tHalf) ∧ (eventsOf p i)[k + 1]? = some (.wait p.tHalf) := by
  have hafter : PulsesBetweenWaits p.tHalf (frameEvents p i ++ .set .cs false :: tailEvents p i.cmd) := by
    refine pulsesBetweenWaits_append (pulsesBetweenWaits_frameEvents p i) (pulsesBetweenWaits_of_not_mem ?_)
    exact List.not_mem_cons_of_ne_of_not_mem nofun fun hmem => tailEvents_ne_set p hmem .clk true rfl
  obtain ⟨n, rfl⟩ := Nat.exists_eq_add_of_le (Nat.succ_le_of_lt hk)
  have hshift (q : Nat) : (eventsOf p i)[7 + q]? = (frameEvents p i ++ .set .cs false :: tailEvents p i.cmd)[q]? := by
    rw [eventsOf_transaction p hc, List.getElem?_append_right (by simp), headEvents_length, Nat.add_sub_cancel_left]
  obtain ⟨j, rfl, hj, hnext⟩ := hafter n ((hshift n).symm.trans h)
  exact ⟨7 + j, rfl, (hshift j).trans hj, (hshift (j + 1 + 1)).trans hnext⟩

end framePulses

/-- Settles O43: before each rise of CLK in the frame there is a wait of `T_HALF`, and after it another
(`eventsOf_pulse`); whatever else comes before the rise comes before the wait, and a SAMPLE after it comes after. -/
theorem halfPeriodSetupInEveryFrame : Obligations.HalfPeriodSetupInEveryFrame := by
  intro s t i hp hc h
  obtain ⟨-, rfl⟩ := exec_eq_completed hp.1 h
  obtain ⟨l, htrace, hevents, hl⟩ := completed_trace s i
  have hevent {k : Nat} {x : TraceEntry} (hx : l[k]? = some x) : (eventsOf s.cfg i)[k]? = some x.event := by
    rw [← hevents, List.getElem?_map, hx]
    rfl
  have hentry {k : Nat} {e : Event} (he : (eventsOf s.cfg i)[k]? = some e) : ∃ z, l[k]? = some z ∧ z.event = e := by
    rw [← hevents, List.getElem?_map] at he
    exact Option.map_eq_some_iff.mp he
  have hbefore {j k : Nat} {x y : TraceEntry} (hx : l[j]? = some x) (hy : l[k]? = some y) (hjk : j < k) :
      x.time ≤ y.time :=
    (le_add_of_nonneg_right (Nat.cast_nonneg _)).trans (hl.time_le hx hy hjk)
  refine ⟨l, htrace, fun j k x y hx hy hjk hk hrise hnowait => ?_, fun j k x y hx hy hjk hj hrise hsample => ?_⟩
  · obtain ⟨q, rfl, hwait, -⟩ := eventsOf_pulse s.cfg hc hk (hrise ▸ hevent hy)
    obtain ⟨z, hz, hzwait⟩ := hentry hwait
    have hne : j ≠ q := by
      rintro rfl
      obtain rfl : x = z := Option.some.inj (hx.symm.trans hz)
      exact hnowait _ hzwait
    have hzy := hl.time_le hz hy (Nat.lt_succ_self q)
    rw [hzwait, duration_wait] at hzy
    linarith [hbefore hx hz (by omega)]
  · obtain ⟨q, rfl, -, hwait⟩ := eventsOf_pulse s.cfg hc hj (hrise ▸ hevent hx)
    obtain ⟨z, hz, hzwait⟩ := hentry hwait
    have hne : k ≠ q + 1 + 1 := by
      rintro rfl
      obtain rfl : y = z := Option.some.inj (hy.symm.trans hz)
      rw [hsample] at hzwait
      cases hzwait
    have hzy := hl.time_le hz hy (by omega)
    rw [hzwait, duration_wait] at hzy
    linarith [hbefore hx hz (Nat.lt_succ_self _)]

end Sys2Proof.Machine
end

section
/-! PE is never driven high and DI never an output (spec/40_lifecycle.md R82, spec/10_state.md R23), and the lines and
ports of an engine in order (spec/00_scope.md R17, spec/10_state.md R37, R38, spec/30_encoding.md R69, R70). -/

namespace Sys2Proof.Machine

/-! ### Micro-operations that keep PE low and DI an input -/

/-- A micro-operation that neither sets PE to 1 nor makes DI an output. -/
def Micro.Quiet (m : Micro) : Prop := m ≠ .set .pe true ∧ m ≠ .dir .di .out

section quiet
variable (s : State) (p : Params)

theorem quiet_cellTail : ∀ m ∈ cellTail p, m.Quiet := by simp [cellTail, Micro.Quiet]

theorem quiet_laterCells (n : Nat) : ∀ m ∈ laterCells p n, m.Quiet := by
  induction n with
  | zero => simp [laterCells, Micro.Quiet]
  | succ n ih =>
    rw [laterCells, List.forall_mem_cons, List.forall_mem_append]
    exact ⟨⟨nofun, nofun⟩, quiet_cellTail p, ih⟩

theorem quiet_transfer (value : Word) (n : Nat) : ∀ m ∈ transfer p value n, m.Quiet := by
  cases n with
  | zero => simp [transfer, Micro.Quiet]
  | succ n =>
    rw [transfer, List.forall_mem_cons, List.forall_mem_append]
    exact ⟨⟨nofun, nofun⟩, quiet_cellTail p, quiet_laterCells p n⟩

theorem quiet_beginTransaction (opw : Word) : ∀ m ∈ beginTransaction p opw, m.Quiet := by
  rw [beginTransaction, List.forall_mem_append, List.forall_mem_cons]
  exact ⟨by simp [prePulse, Micro.Quiet], ⟨nofun, nofun⟩, quiet_transfer p _ 3⟩

theorem quiet_endTransaction : ∀ m ∈ endTransaction, m.Quiet := by simp [endTransaction, Micro.Quiet]

/-- R82, R23: in every command's list. -/
theorem quiet_program (c : Cmd) (a d : Word) : ∀ m ∈ program p c a d, m.Quiet := by
  cases c with
  | openCmd => simp [program, openProgram, Micro.Quiet]
  | closeCmd => simp [program, closeProgram, Micro.Quiet]
  | read =>
    simp only [program, readProgram, List.forall_mem_append]
    exact ⟨⟨⟨quiet_beginTransaction p _, quiet_transfer p _ _⟩, quiet_transfer p _ _⟩, quiet_endTransaction⟩
  | write =>
    simp only [program, writeProgram, List.forall_mem_append]
    exact ⟨⟨⟨⟨quiet_beginTransaction p _, quiet_transfer p _ _⟩, quiet_transfer p _ _⟩, quiet_endTransaction⟩,
      by simp [Micro.Quiet]⟩
  | ewen =>
    simp only [program, ewenProgram, List.forall_mem_append]
    exact ⟨⟨quiet_beginTransaction p _, quiet_transfer p _ _⟩, quiet_endTransaction⟩
  | ewds =>
    simp only [program, ewdsProgram, List.forall_mem_append]
    exact ⟨⟨quiet_beginTransaction p _, quiet_transfer p _ _⟩, quiet_endTransaction⟩

/-- A quiet micro-operation's event is neither of the two, whatever the datapath holds. -/
theorem Micro.Quiet.event {m : Micro} (h : m.Quiet) : m.event s ≠ .set .pe true ∧ m.event s ≠ .dir .di .out := by
  obtain ⟨hset, hdir⟩ := h
  cases m with
  | set l v => exact ⟨fun e => hset (by cases e; rfl), nofun⟩
  | dir l d => exact ⟨nofun, fun e => hdir (by cases e; rfl)⟩
  | _ => exact ⟨nofun, nofun⟩

theorem Micro.Quiet.keeps_pe {m : Micro} (h : m.Quiet) (hpe : s.lvl.pe = false) : (s.micro m).lvl.pe = false := by
  cases m with
  | set l v => cases l with
    | pe => cases v with
      | false => rfl
      | true => exact absurd rfl h.1
    | _ => exact hpe
  | _ => exact hpe

theorem Micro.Quiet.keeps_di {m : Micro} (h : m.Quiet) (hdi : s.dir.di = .inn) : (s.micro m).dir.di = .inn := by
  cases m with
  | dir l d => cases l with
    | di => cases d with
      | inn => rfl
      | out => exact absurd rfl h.2
    | _ => exact hdi
  | _ => exact hdi

variable {s}

theorem quiet_runMicros {ms : List Micro} (h : ∀ m ∈ ms, m.Quiet) (hpe : s.lvl.pe = false) (hdi : s.dir.di = .inn) :
    (s.runMicros ms).lvl.pe = false ∧ (s.runMicros ms).dir.di = .inn := by
  induction ms generalizing s with
  | nil => exact ⟨hpe, hdi⟩
  | cons m ms ih =>
    rw [List.forall_mem_cons] at h
    exact ih h.2 (h.1.keeps_pe s hpe) (h.1.keeps_di s hdi)

theorem quiet_runMicros_trace {ms : List Micro} (h : ∀ m ∈ ms, m.Quiet) {x : TraceEntry}
    (hx : x ∈ (s.runMicros ms).trace) : x ∈ s.trace ∨ (x.event ≠ .set .pe true ∧ x.event ≠ .dir .di .out) := by
  induction ms generalizing s with
  | nil => exact .inl hx
  | cons m ms ih =>
    rw [List.forall_mem_cons] at h
    obtain hmicro | hlater := ih h.2 hx
    · rw [micro_trace, List.mem_append, List.mem_singleton] at hmicro
      exact hmicro.imp_right fun e => by rw [e]; exact h.1.event s
    · exact .inr hlater

end quiet

/-! ### In every state in order -/

section inOrder
variable {s : State}

theorem settled_pe_di (h : Settled s) : s.lvl.pe = false ∧ s.dir.di = .inn := by
  obtain ⟨-, hlines, -⟩ := h
  by_cases ho : s.isOpen = true
  · obtain ⟨hdir, hlvl⟩ : IdleOpenLines s := by simpa [IdleLines, ho] using hlines
    exact ⟨by rw [hlvl], by rw [hdir]⟩
  · obtain ⟨hdir, hlvl⟩ : ClosedLines s := by simpa [IdleLines, ho] using hlines
    exact ⟨by rw [hlvl], by rw [hdir]⟩

theorem inOrder_pe_di (h : InOrder s) : s.lvl.pe = false ∧ s.dir.di = .inn := by
  cases hb : s.busy with
  | false => exact settled_pe_di (settled_of_inOrder h hb)
  | true =>
    obtain ⟨s0, i, k, hs0, -, -, rfl⟩ := midCommand_of_inOrder h hb
    obtain ⟨hpe, hdi⟩ := settled_pe_di hs0
    exact quiet_runMicros (fun m hm => quiet_program _ _ _ _ m (List.mem_of_mem_take hm)) hpe hdi

theorem inOrder_fits (h : InOrder s) : Fits s := by
  cases hb : s.busy with
  | false =>
    obtain ⟨-, -, hfits, -⟩ := settled_of_inOrder h hb
    exact hfits
  | true =>
    obtain ⟨s0, i, k, ⟨-, -, hfits, -⟩, -, -, rfl⟩ := midCommand_of_inOrder h hb
    exact fits_runMicros _ (fits_accept i hfits)

end inOrder

/-- Settles O37: a settled engine has both, and the part of a list run so far is quiet (`inOrder_pe_di`). -/
theorem programEnableStaysLowAndDataInStaysInput : Obligations.ProgramEnableStaysLowAndDataInStaysInput :=
  fun _ h => inOrder_pe_di h

/-- Settles O38: what a command adds to the trace are the events of its list's micro-operations, which are quiet. -/
theorem noEventDrivesProgramEnableHigh : Obligations.NoEventDrivesProgramEnableHigh := by
  intro s t i h x hx
  obtain ⟨-, he⟩ | ⟨-, he⟩ | ⟨-, -, he⟩ := exec_cases s i <;> rw [he] at h <;> cases h
  · exact .inl hx
  · rw [State.completed, finish_trace] at hx
    exact quiet_runMicros_trace (s := s.accept i) (quiet_program _ _ _ _) hx

/-! ### The lines -/

section lines
variable {s : State} {l : Line}

theorem line_of_inn (h : s.dir.get l = .inn) : s.line l = .z := by
  rw [State.line, h]

theorem line_of_out {v : Bool} (h : s.dir.get l = .out) (hv : s.latch l = some v) : s.line l = .driven v := by
  rw [State.line, h, hv]

/-- R17: a line with a latch is driven at it exactly while its direction is OUT. -/
theorem line_eq_driven_iff {v : Bool} (hv : s.latch l = some v) : s.line l = .driven v ↔ s.dir.get l = .out := by
  cases hd : s.dir.get l with
  | inn => simp [line_of_inn hd]
  | out => simp [line_of_out hd hv]

/-- R38: with the lines released nothing is driven. -/
theorem line_of_released (h : s.dir = Dirs.released) (l : Line) : s.line l = .z := by
  apply line_of_inn
  rw [h]
  cases l <;> rfl

theorem line_of_closedLines (h : ClosedLines s) (l : Line) : s.line l = .z := line_of_released h.1 l

/-- R37: while idle and open every line but DI is driven low. -/
theorem line_of_idleOpenLines (h : IdleOpenLines s) (hl : l ≠ .di) : s.line l = .driven false := by
  obtain ⟨hdir, hlvl⟩ := h
  cases l with
  | di => exact absurd rfl hl
  | _ => exact line_of_out (by rw [hdir]; rfl) (by rw [State.latch, hlvl])

end lines

/-- Settles O47: the lines of R37 and R38, read by R17. -/
theorem idleEngineDrivesOnlyLowLevels : Obligations.IdleEngineDrivesOnlyLowLevels := by
  intro s h hb
  obtain ⟨-, hlines, -⟩ := settled_of_inOrder h hb
  refine ⟨line_of_inn (inOrder_pe_di h).2, fun ho => ?_, fun ho l hl => ?_⟩
  · exact line_of_closedLines (by simpa [IdleLines, ho] using hlines)
  · exact line_of_idleOpenLines (by simpa [IdleLines, ho] using hlines) hl

/-! ### The ports -/

theorem oe_iff (s : State) (l : Line) : s.oe l = true ↔ s.dir.get l = .out := beq_iff_eq

/-- R17, R70: an output enable is up exactly while its line is driven at its latch. -/
theorem oe_iff_driven {s : State} {l : Line} {v : Bool} (hv : s.latch l = some v) :
    s.oe l = true ↔ s.line l = .driven v :=
  (oe_iff s l).trans (line_eq_driven_iff hv).symm

/-- Settles O48: DI is an input in every state in order, and each output enable is its line's direction. -/
theorem portsNeverDriveDataIn : Obligations.PortsNeverDriveDataIn := by
  intro s h
  obtain ⟨-, hdi⟩ := inOrder_pe_di h
  have hdiOe : s.oe .di = false := by rw [State.oe, Dirs.get, hdi]; rfl
  exact ⟨hdiOe, rfl, rfl, rfl, rfl, rfl, oe_iff s .cs, oe_iff s .clk, oe_iff s .dout, oe_iff s .pe,
    oe_iff_driven rfl, oe_iff_driven rfl, oe_iff_driven rfl, oe_iff_driven rfl⟩

/-- Settles O58: the port shows the registers, and the registers hold values of their widths (`inOrder_fits`). -/
theorem responsePortShowsResultRegisters : Obligations.ResponsePortShowsResultRegisters := by
  intro s h
  obtain ⟨-, -, -, -, -, hrdata, hrraw, hlow⟩ := inOrder_fits h
  exact ⟨rfl, rfl, rfl, rfl, rfl, hrdata, hrraw, hlow⟩

/-! ### Reset (R127) -/

theorem atReset_applyReset (s : State) : AtReset s.applyReset := by
  simp [AtReset, Dirs.released, Levels.low]

theorem line_applyReset (s : State) (l : Line) : s.applyReset.line l = .z := line_of_released rfl l

/-- Settles O11: reset wins while busy (R116) and while idle. -/
theorem resetRestoresEveryItem : Obligations.ResetRestoresEveryItem := by
  intro s rest hh
  have hstep : step s = .next s.dropMove.applyReset := by
    cases hb : s.busy <;> simp [step, hb, State.busyStep, State.hostStep, hh]
  exact ⟨_, hstep, atReset_applyReset _, line_applyReset _, rfl, by simp [hh], rfl, rfl, rfl, rfl, rfl⟩

/-- Settles O12: the events before the reset are the first `k` of the command's list (`runMicros_take_eventTrace`). -/
theorem resetAbandonsCommandAtItsEvent : Obligations.ResetAbandonsCommandAtItsEvent := by
  intro s w k rest i hh hd hp
  have hp' : Permitted s.dropMove i := hp
  have hstep : step s = .next (s.dropMove.cutShort i k) := by
    simp [step, hp.1, State.hostStep, hh, State.presentInterrupted, hd, exec_of_permitted hp']
  refine ⟨_, hstep, atReset_applyReset _, line_applyReset _, by simp [State.cutShort], by simp [State.cutShort, hh], ?_⟩
  exact runMicros_take_eventTrace (s.dropMove.accept i) _ k (programOf_eventTrace (s.dropMove.accept i) i)

/-- Settles O44: the reset state is what reset makes of it, which is settled. -/
theorem resetMeetsInvariant : Obligations.ResetMeetsInvariant :=
  inOrder_of_settled (settled_applyReset State.reset)

/-- Settles O45: an accepted configuration is the reset state with its parameters, which is settled whatever they are. -/
theorem configuredEngineMeetsInvariant : Obligations.ConfiguredEngineMeetsInvariant := by
  intro p others s h
  unfold configure at h
  split at h
  · split at h
    · cases h
    · cases h
      exact inOrder_of_settled (settled_applyReset { State.reset with cfg := p })
  · cases h

end Sys2Proof.Machine
end

section
/-! What a step can change (spec/10_state.md R26, R33, R34, R41, spec/60_exceptions.md R113, R119), and the run of a
command event by event (spec/30_encoding.md R71, spec/60_exceptions.md R126). -/

namespace Sys2Proof.Machine

/-! ### What each kind of step leaves -/

section stepTo
variable {s t : State}

/-- R41: no kind of step writes the parameters. -/
theorem stepTo_cfg (h : StepTo s t) : t.cfg = s.cfg := by
  cases h with
  | reset hh => rfl
  | nothing hb hh => rfl
  | command hb hh hd hp => simp
  | interrupted hb hh hd hp => simp [State.cutShort]
  | event hb hh hc hm hl => simp
  | lastEvent hb hh hc hm hl => simp

/-- R33, R34: the results change when a READ completes, and by reset. -/
theorem stepTo_results (h : StepTo s t) :
    (t.rdata = s.rdata ∧ t.rraw = s.rraw) ∨ ReadCompletesIn s ∨ ResetIn s := by
  cases h with
  | reset hh => exact .inr (.inr (.inl hh))
  | nothing hb hh => exact .inl ⟨rfl, rfl⟩
  | @command w i rest hb hh hd hp =>
    by_cases hr : i.cmd = .read
    · obtain ⟨a, d, rfl⟩ : ∃ a d, i = .read a d := ⟨i.addr, i.data, by rw [← Instr.cmd_instr i, hr]; rfl⟩
      exact .inr (.inl (.inl ⟨hb, w, rest, a, d, hh, hd⟩))
    · exact .inl (completed_results s.dropMove hr)
  | interrupted hb hh hd hp => exact .inr (.inr (.inr ⟨hb, _, _, by rw [hh]; rfl⟩))
  | @event c m hb hh hc hm hl => exact .inl ⟨micro_rdata s m, micro_rraw s m⟩
  | @lastEvent c m hb hh hc hm hl =>
    by_cases hr : c = .read
    · subst hr
      exact .inr (.inl (.inr ⟨hb, hh, hc, hl⟩))
    · obtain ⟨hrdata, hrraw⟩ := finish_results (s.micro m) hr
      exact .inl ⟨hrdata.trans (micro_rdata s m), hrraw.trans (micro_rraw s m)⟩

/-- R26: OPEN sets `open`, CLOSE clears it, no other command writes it. -/
theorem finish_isOpen (s : State) (c : Cmd) :
    (s.finish c).isOpen = s.isOpen ∨ ((s.finish c).isOpen = true ∧ c = .openCmd) ∨
      ((s.finish c).isOpen = false ∧ c = .closeCmd) := by
  cases c with
  | openCmd => exact .inr (.inl ⟨rfl, rfl⟩)
  | closeCmd => exact .inr (.inr ⟨rfl, rfl⟩)
  | _ => exact .inl rfl

/-- R26, R119: `open` changes when OPEN or CLOSE completes, and by reset. -/
theorem stepTo_isOpen (h : StepTo s t) :
    t.isOpen = s.isOpen ∨ ResetIn s ∨ (t.isOpen = true ∧ Cmd.ofCode t.cur.op = some .openCmd) ∨
      (t.isOpen = false ∧ Cmd.ofCode t.cur.op = some .closeCmd) := by
  cases h with
  | reset hh => exact .inr (.inl (.inl hh))
  | nothing hb hh => exact .inl rfl
  | @command w i rest hb hh hd hp =>
    have hcode : Cmd.ofCode (s.dropMove.completed i).cur.op = some i.cmd := by rw [completed_cur, Cmd.ofCode_code]
    obtain hkeep | ⟨ho, hc⟩ | ⟨ho, hc⟩ :=
      finish_isOpen ((s.dropMove.accept i).runMicros (programOf s.dropMove.cfg i)) i.cmd
    · exact .inl (hkeep.trans (by simp))
    · exact .inr (.inr (.inl ⟨ho, hcode.trans (congrArg some hc)⟩))
    · exact .inr (.inr (.inr ⟨ho, hcode.trans (congrArg some hc)⟩))
  | interrupted hb hh hd hp => exact .inr (.inl (.inr ⟨hb, _, _, by rw [hh]; rfl⟩))
  | @event c m hb hh hc hm hl => exact .inl (micro_isOpen s m)
  | @lastEvent c m hb hh hc hm hl =>
    have hcode : Cmd.ofCode ((s.micro m).finish c).cur.op = some c := by rwa [finish_cur, micro_cur]
    obtain hkeep | ⟨ho, rfl⟩ | ⟨ho, rfl⟩ := finish_isOpen (s.micro m) c
    · exact .inl (hkeep.trans (micro_isOpen s m))
    · exact .inr (.inr (.inl ⟨ho, hcode⟩))
    · exact .inr (.inr (.inr ⟨ho, hcode⟩))

end stepTo

/-- Settles O50, kind by kind of step (`stepTo_cfg`). -/
theorem parametersNeverChange : Obligations.ParametersNeverChange :=
  fun _ _ h => stepTo_cfg (stepTo_of_step h)

/-- Settles O51, kind by kind of step (`stepTo_results`). -/
theorem onlyReadAndResetWriteResults : Obligations.OnlyReadAndResetWriteResults := by
  intro s t h hchanged
  obtain ⟨hrdata, hrraw⟩ | hwho := stepTo_results (stepTo_of_step h)
  · exact absurd hchanged (by simp [hrdata, hrraw])
  · exact hwho

/-- Settles O53, kind by kind of step (`stepTo_isOpen`). -/
theorem onlyLifecycleCommandsAndResetChangeOpen : Obligations.OnlyLifecycleCommandsAndResetChangeOpen :=
  fun _ _ h hchanged => (stepTo_isOpen (stepTo_of_step h)).resolve_left hchanged

/-! ### A command event by event -/

/-- The state in which the first `k` events of a command accepted by `s` are done. -/
def State.midway (s : State) (i : Instr) (k : Nat) : State := (s.accept i).runMicros ((programOf s.cfg i).take k)

section midway
variable (s : State) (i : Instr)

@[simp] theorem midway_busy (k : Nat) : (s.midway i k).busy = true := by simp [State.midway]

@[simp] theorem midway_host (k : Nat) : (s.midway i k).host = s.host := by simp [State.midway]

theorem midway_code (k : Nat) : Cmd.ofCode (s.midway i k).cur.op = some i.cmd := by simp [State.midway]

/-- What the sequencer reads as `E(cur)` is the command's own list (R29, R30). -/
theorem midway_program (k : Nat) :
    program (s.midway i k).cfg i.cmd (s.midway i k).cur.addr (s.midway i k).cur.data = programOf s.cfg i := by
  simp [State.midway, programOf]

theorem midway_seq {k : Nat} (hk : k ≤ (programOf s.cfg i).length) : (s.midway i k).seq = k := by
  simp [State.midway, Nat.min_eq_left hk]

variable {s i}

/-- R30: a sequencer step performs the next event; the last one completes the command. -/
theorem step_midway {k : Nat} (hh : s.host.head? ≠ some .reset) (hk : k < (programOf s.cfg i).length) :
    step (s.midway i k) =
      .next (if k + 1 = (programOf s.cfg i).length then s.completed i else s.midway i (k + 1)) := by
  obtain ⟨m, hm⟩ : ∃ m, (programOf s.cfg i)[k]? = some m := ⟨_, List.getElem?_eq_getElem hk⟩
  have hmicro : (s.midway i k).micro m = s.midway i (k + 1) := micro_runMicros_take (s.accept i) hm
  have hseq : (s.midway i k).seq = k := midway_seq s i hk.le
  have hnext : (program (s.midway i k).cfg i.cmd (s.midway i k).cur.addr (s.midway i k).cur.data)[(s.midway i k).seq]? =
      some m := by rw [midway_program, hseq, hm]
  rw [step_of_busy (midway_busy s i k) (by simpa using hh)]
  split
  next hl =>
    rw [sequencerStep_of_lastEvent (midway_code s i k) hnext (by rw [midway_program, hseq, hl]), hmicro, hl,
      State.midway, List.take_length]
    rfl
  next hl =>
    rw [sequencerStep_of_event (midway_code s i k) hnext (by rwa [midway_program, hseq]), hmicro]

theorem run_succ {s t : State} (n : Nat) (h : step s = .next t) :
    Host.Core.run core (n + 1) s = Host.Core.run core n t := by
  have hcore : core.step s = .next t := h
  simp only [Host.Core.run, hcore]

/-- Short of the last event, `n` steps perform `n` events. -/
theorem run_midway {k n : Nat} (hh : s.host.head? ≠ some .reset) (hk : k + n < (programOf s.cfg i).length) :
    Host.Core.run core n (s.midway i k) = .next (s.midway i (k + n)) := by
  induction n generalizing k with
  | zero => rfl
  | succ n ih =>
    have hstep := step_midway hh (show k < (programOf s.cfg i).length by omega)
    rw [if_neg (by omega)] at hstep
    rw [run_succ n hstep, ih (by omega), Nat.add_right_comm, Nat.add_assoc]

/-- R71: as many steps as there are events left complete the command. -/
theorem run_midway_to_end {k n : Nat} (hh : s.host.head? ≠ some .reset) (hk : k + (n + 1) = (programOf s.cfg i).length) :
    Host.Core.run core (n + 1) (s.midway i k) = .next (s.completed i) := by
  induction n generalizing k with
  | zero =>
    have hstep := step_midway hh (show k < (programOf s.cfg i).length by omega)
    rw [if_pos hk] at hstep
    rw [run_succ 0 hstep]
    rfl
  | succ n ih =>
    have hstep := step_midway hh (show k < (programOf s.cfg i).length by omega)
    rw [if_neg (by omega)] at hstep
    rw [run_succ (n + 1) hstep, ih (by omega)]

end midway

/-- Settles O55: from acceptance, no event done, to the end (`run_midway_to_end`). -/
theorem sequencerStepsReachCommandResult : Obligations.SequencerStepsReachCommandResult := by
  intro s t i hp hh h
  obtain ⟨-, rfl⟩ := exec_eq_completed hp.1 h
  obtain ⟨n, hn⟩ := Nat.exists_eq_succ_of_ne_zero (List.length_pos_of_ne_nil (eventsOf_ne_nil s.cfg i)).ne'
  rw [hn]
  exact run_midway_to_end hh (by rw [programOf_length, hn, Nat.zero_add])

/-- R29, R48: `cur` holds what the command's list reads of its fields. -/
theorem eventsOf_trunc (p : Params) (i : Instr) :
    eventsOf p (i.cmd.instr (trunc p.geom.aw i.addr) (trunc p.geom.ps i.data)) = eventsOf p i := by
  cases i with
  | read a d => simp [Instr.cmd, Instr.addr, Instr.data, Cmd.instr, eventsOf, readEvents]
  | write a d => simp [Instr.cmd, Instr.addr, Instr.data, Cmd.instr, eventsOf, writeEvents]
  | _ => rfl

/-- The time from the `k`-th event of a command to its end (R16). -/
theorem completed_now (s : State) (i : Instr) (k : Nat) :
    (s.completed i).now = (s.midway i k).now + (waitSum ((eventsOf s.cfg i).drop k) : Rat) +
      ∑ j ∈ Finset.range ((programOf s.cfg i).length - k), Config.gap ((s.midway i k).events + j) := by
  have hrun : (s.accept i).runMicros (programOf s.cfg i) = (s.midway i k).runMicros ((programOf s.cfg i).drop k) := by
    rw [State.midway, ← runMicros_append, List.take_append_drop]
  have hall : ((s.accept i).runMicros (programOf s.cfg i)).eventTrace = s.eventTrace ++ eventsOf s.cfg i :=
    programOf_eventTrace (s.accept i) i
  have hdone : (s.midway i k).eventTrace = s.eventTrace ++ (eventsOf s.cfg i).take k :=
    runMicros_take_eventTrace (s.accept i) _ k hall
  have hleft : ((s.midway i k).entries ((programOf s.cfg i).drop k)).map (·.event) = (eventsOf s.cfg i).drop k := by
    apply entries_events
    rw [← hrun, hall, hdone, List.append_assoc, List.take_append_drop]
  rw [State.completed, finish_now, hrun, runMicros_now, hleft, List.length_drop]

/-- Settles O56: `InOrder` makes a busy engine one midway in a command, whose events left are the steps left
(`run_midway`, `run_midway_to_end`). -/
theorem busyEngineFinishesItsEvents : Obligations.BusyEngineFinishesItsEvents := by
  intro s h hb hh
  obtain ⟨s0, i, k, -, -, hk, hs⟩ := midCommand_of_inOrder h hb
  obtain rfl : s = s0.midway i k := hs
  rw [midway_host] at hh
  obtain ⟨n, hn⟩ := Nat.exists_eq_add_of_lt hk
  refine ⟨i.cmd, midway_code s0 i k, ?_⟩
  intro left
  have hleft : left = n + 1 := by
    simp only [left, midway_program, midway_seq s0 i hk.le]
    omega
  have hevents : eventsOf (s0.midway i k).cfg (i.cmd.instr (s0.midway i k).cur.addr (s0.midway i k).cur.data) =
      eventsOf s0.cfg i := by
    rw [← eventsOf_trunc s0.cfg i]
    simp [State.midway]
  have hnow := completed_now s0 i k
  rw [show (programOf s0.cfg i).length - k = n + 1 by omega] at hnow
  clear_value left
  subst hleft
  refine ⟨⟨s0.completed i, run_midway_to_end hh hn.symm, completed_busy s0 i, ?_⟩,
    fun q hq => ⟨s0.midway i (k + q), run_midway hh (by omega), midway_busy s0 i _⟩⟩
  rw [hevents, midway_seq s0 i hk.le, hnow]

/-! ### No fault (R113) -/

theorem present_ne_fault (s : State) (w : Word) (f : Fault) : s.present w ≠ .fault f := by
  unfold State.present
  split
  · exact exec_ne_fault s _ f
  · nofun

theorem presentInterrupted_ne_fault (s : State) (w : Word) (k : Nat) (f : Fault) :
    s.presentInterrupted w k ≠ .fault f := by
  unfold State.presentInterrupted
  split
  next i hd =>
    split
    next => nofun
    next f' he => exact absurd he (exec_ne_fault s i f')
    next => nofun
  next => nofun

theorem hostStep_ne_fault (s : State) (f : Fault) : s.hostStep ≠ .fault f := by
  unfold State.hostStep
  split
  · nofun
  · nofun
  · exact present_ne_fault _ _ f
  · exact presentInterrupted_ne_fault _ _ _ f
  · nofun

/-- A busy engine in order always has a next state: reset's, or that of the next event of its command. -/
theorem busy_step_next {s : State} (h : InOrder s) (hb : s.busy = true) : ∃ t, step s = .next t := by
  by_cases hh : s.host.head? = some .reset
  · obtain ⟨rest, hr⟩ := List.head?_eq_some_iff.mp hh
    obtain ⟨t, ht, -⟩ := resetRestoresEveryItem s rest hr
    exact ⟨t, ht⟩
  · obtain ⟨s0, i, k, -, -, hk, rfl⟩ := midCommand_of_inOrder h hb
    exact ⟨_, step_midway (by simpa using hh) hk⟩

/-- Settles O49: a host step raises no fault (`hostStep_ne_fault`), and a running command has an event left
(`busy_step_next`). -/
theorem engineInOrderNeverFaults : Obligations.EngineInOrderNeverFaults := by
  intro s h
  refine ⟨fun f => ?_, busy_step_next h⟩
  cases hb : s.busy with
  | false =>
    rw [step, if_neg (by simp [hb])]
    exact hostStep_ne_fault s f
  | true =>
    obtain ⟨t, ht⟩ := busy_step_next h hb
    rw [ht]
    nofun

end Sys2Proof.Machine
end

section
/-! What the device's levels reach (spec/20_memory.md R51), the host's duty to end each lifetime (spec/40_lifecycle.md R83),
and a transport at work (spec/20_memory.md R57, spec/70_reset_and_hazards.md R130). -/

namespace Sys2Proof.Machine

/-! ### Runs that differ in what the device shows -/

/-- What the host can see of a trace without the sampled levels: the events and their times. -/
def timedEvents (l : List TraceEntry) : List (Rat × Event) := l.map (fun x => (x.time, x.event))

/-- The state with other levels from the device, and with what SAMPLEs write changed: `rx` and the trace's levels (R24). -/
def State.withDevice (s : State) (rx : Word) (di : List Bool) (samples : Nat) (trace : List TraceEntry) : State :=
  { s with rx := rx, di := di, samples := samples, trace := trace }

section device
variable (s : State) (rx n : Nat) (di : List Bool) {trace : List TraceEntry}

@[simp] theorem withDevice_now : (s.withDevice rx di n trace).now = s.now := rfl
@[simp] theorem withDevice_events : (s.withDevice rx di n trace).events = s.events := rfl
@[simp] theorem withDevice_trace : (s.withDevice rx di n trace).trace = trace := rfl

/-- A drive's level comes from `tx` and `bi` (R84), so no event depends on what the device shows. -/
@[simp] theorem event_withDevice (m : Micro) : m.event (s.withDevice rx di n trace) = m.event s := by
  cases m <;> rfl

variable (h : timedEvents trace = timedEvents s.trace)
include h

/-- Only a SAMPLE reads the device's levels, and no micro-operation reads the trace. -/
theorem withDevice_micro (m : Micro) : ∃ rx' di' n' trace',
    (s.withDevice rx di n trace).micro m = (s.micro m).withDevice rx' di' n' trace' ∧
      timedEvents trace' = timedEvents (s.micro m).trace := by
  refine ⟨((s.withDevice rx di n trace).micro m).rx, ((s.withDevice rx di n trace).micro m).di,
    ((s.withDevice rx di n trace).micro m).samples, ((s.withDevice rx di n trace).micro m).trace, ?_, ?_⟩
  · cases m <;> rfl
  · rw [micro_trace, micro_trace]
    simp only [timedEvents, List.map_append, withDevice_trace, withDevice_now, withDevice_events, event_withDevice] at h ⊢
    rw [h]
    rfl

theorem withDevice_runMicros (ms : List Micro) : ∃ rx' di' n' trace',
    (s.withDevice rx di n trace).runMicros ms = (s.runMicros ms).withDevice rx' di' n' trace' ∧
      timedEvents trace' = timedEvents (s.runMicros ms).trace := by
  induction ms generalizing s rx di n trace with
  | nil => exact ⟨rx, di, n, trace, rfl, h⟩
  | cons m ms ih =>
    obtain ⟨rx', di', n', trace', hmicro, htrace⟩ := withDevice_micro s rx n di h m
    rw [runMicros_cons, hmicro]
    exact ih (s.micro m) rx' n' di' htrace

end device

/-- Settles O54: the two runs differ as `withDevice_runMicros` says, and of the completion writes only READ's read `rx`. -/
theorem deviceReachesOnlySamplesAndResults : Obligations.DeviceReachesOnlySamplesAndResults := by
  intro s t i di' n' h
  obtain ⟨hb, he⟩ | ⟨hp, he⟩ | ⟨-, -, he⟩ := exec_cases s i <;> rw [he] at h <;> cases h
  · exact ⟨_, exec_of_busy (s := { s with di := di', samples := n' }) hb i, rfl, rfl, fun _ => ⟨rfl, rfl⟩⟩
  · obtain ⟨rx, di, n, trace, hrun, htrace⟩ :=
      withDevice_runMicros (s.accept i) (s.accept i).rx n' di' (trace := s.trace) rfl (programOf s.cfg i)
    have haccept : ({ s with di := di', samples := n' } : State).accept i =
        (s.accept i).withDevice (s.accept i).rx di' n' s.trace := rfl
    have hp' : Permitted { s with di := di', samples := n' } i := hp
    have hcompleted : ({ s with di := di', samples := n' } : State).completed i =
        (((s.accept i).runMicros (programOf s.cfg i)).withDevice rx di n trace).finish i.cmd := by
      rw [State.completed, haccept, ← hrun]
    refine ⟨_, exec_of_permitted hp', ?_⟩
    rw [hcompleted, State.completed]
    refine ⟨?_, ?_, fun hr => ?_⟩
    · cases i.cmd <;> rfl
    · rw [finish_trace, finish_trace]
      exact htrace
    · obtain ⟨hrdata, hrraw⟩ := finish_results ((s.accept i).runMicros (programOf s.cfg i)) hr
      obtain ⟨hrdata', hrraw'⟩ :=
        finish_results (((s.accept i).runMicros (programOf s.cfg i)).withDevice rx di n trace) hr
      exact ⟨hrdata'.trans hrdata.symm, hrraw'.trans hrraw.symm⟩

/-! ### The host's moves and the lifetime -/

theorem run_succ_next {s t : State} {n : Nat} (h : Host.Core.run core (n + 1) s = .next t) :
    ∃ u, step s = .next u ∧ Host.Core.run core n u = .next t := by
  cases hs : step s with
  | next u => exact ⟨u, rfl, (run_succ n hs).symm.trans h⟩
  | fault f =>
    have hcore : core.step s = .fault f := hs
    simp [Host.Core.run, hcore] at h
  | refused r =>
    have hcore : core.step s = .refused r := hs
    simp [Host.Core.run, hcore] at h

/-- Run through all the host's moves, an idle engine in order is idle and in order, and open exactly if the moves leave a
lifetime open (R81). -/
theorem run_host {s t : State} (hin : InOrder s) (hb : s.busy = false)
    (h : Host.Core.run core s.host.length s = .next t) :
    InOrder t ∧ t.busy = false ∧ t.isOpen = s.host.foldl (lifetimeAfter s.cfg.geom) s.isOpen := by
  generalize hh : s.host = moves at h ⊢
  induction moves generalizing s with
  | nil =>
    cases h
    exact ⟨hin, hb, rfl⟩
  | cons m rest ih =>
    obtain ⟨u, hstep, hrun⟩ := run_succ_next h
    obtain ⟨ho, hub, hcfg, hhost⟩ := step_lifetime s u m rest hb hh hstep
    have hu := ih (stepTo_keeps_inOrder hin (stepTo_of_step hstep)) hub hhost hrun
    rwa [hcfg, ho] at hu

/-- Settles O59: the lines after the last move are those of an idle engine in order, closed or open as the moves leave it
(`run_host`). -/
theorem linesReleasedExactlyIfHostEndsLifetimes : Obligations.LinesReleasedExactlyIfHostEndsLifetimes := by
  intro s t hin hb h
  obtain ⟨ht, htb, ho⟩ := run_host hin hb h
  obtain ⟨-, hclosed, hopen⟩ := idleEngineDrivesOnlyLowLevels t ht htb
  refine ⟨fun hends => hclosed (ho.trans hends), fun hleft => hopen (ho.trans ?_) .pe nofun⟩
  simpa using hleft

/-! ### Pins and drivers -/

/-- With every line released no pin is driven. -/
theorem driversAt_of_released {s : State} (h : ∀ l, s.line l = .z) (n : Nat) : s.driversAt n = [] := by
  rw [List.eq_nil_iff_forall_not_mem]
  exact fun l hl => ((mem_driversAt s n l).mp hl).2 (h l)

/-- While idle and open each pin but DI's is driven by its own role alone (R22, R37). -/
theorem driversAt_of_idleOpen {s : State} (hpins : s.cfg.pins.distinct) (h : IdleOpenLines s) (l : Line) :
    s.driversAt (pinOf s.cfg.pins l) = if l = .di then [] else [l] := by
  have hline (k : Line) : s.line k = .z ↔ k = .di := by
    constructor
    · intro hz
      by_contra hk
      rw [line_of_idleOpenLines h hk] at hz
      cases hz
    · rintro rfl
      exact line_of_inn (by rw [h.1]; rfl)
  have hdrives : (fun k => pinOf s.cfg.pins k == pinOf s.cfg.pins l && s.line k != .z) =
      fun k => decide (k = l ∧ k ≠ .di) := by
    funext k
    have hpin : pinOf s.cfg.pins k = pinOf s.cfg.pins l ↔ k = l := ⟨pinOf_inj _ hpins k l, congrArg _⟩
    rw [Bool.eq_iff_iff]
    simp [hpin, hline]
  rw [State.driversAt, hdrives]
  cases l <;> rfl

/-! ### A transport at work -/

section transport
variable {s : State} {i : Instr}

theorem idleOpenLines_of_settled (h : Settled s) (ho : s.isOpen = true) : IdleOpenLines s := by
  obtain ⟨-, hlines, -⟩ := h
  simpa [IdleLines, ho] using hlines

theorem closedLines_of_settled (h : Settled s) (ho : s.isOpen = false) : ClosedLines s := by
  obtain ⟨-, hlines, -⟩ := h
  simpa [IdleLines, ho] using hlines

/-- A transaction keeps an open settled engine open and settled. -/
theorem settled_open_transaction (hc : i.cmd.isTransaction = true) (h : Settled s) (ho : s.isOpen = true) :
    exec i s = .next (s.completed i) ∧ Settled (s.completed i) ∧ (s.completed i).isOpen = true := by
  have hp : Permitted s i := permitted_of_isTransaction hc h.1 ho
  exact ⟨exec_of_permitted hp, settled_completed h hp, completed_isOpen_of_isTransaction hc hp⟩

end transport

theorem configure_of_bootPremises {p : Params} {device : Geometry} {others : List Pins} {agents : List (List Nat)}
    (h : BootPremises p device others agents) : configure p others = .next { State.reset with cfg := p } := by
  obtain ⟨⟨hwf, -⟩, -, hothers, -⟩ := h
  refine configure_of_free hwf ?_
  rw [List.any_eq_true]
  rintro ⟨q, hq, hshared⟩
  rw [hothers q hq] at hshared
  cases hshared

/-- R130 steps 4 to 6: OPEN right after configuration gives a settled open engine. -/
theorem exec_openCmd_of_reset (p : Params) (shown : List Bool) (a d : Word) :
    ∃ s, exec (.openCmd a d) { State.reset with cfg := p, di := shown } = .next s ∧
      Settled s ∧ s.isOpen = true ∧ s.cfg = p := by
  have hp : Permitted { State.reset with cfg := p, di := shown } (.openCmd a d) := permitted_openCmd_iff.mpr ⟨rfl, rfl⟩
  exact ⟨_, exec_of_permitted hp, settled_completed (settled_applyReset { State.reset with cfg := p, di := shown }) hp,
    completed_isOpen hp, completed_cfg _ _⟩

/-- R130 step 7: CLOSE on a settled open engine releases every line. -/
theorem exec_closeCmd_of_settled {s : State} (h : Settled s) (ho : s.isOpen = true) (a d : Word) :
    ∃ t, exec (.closeCmd a d) s = .next t ∧ ∀ l, t.line l = .z := by
  have hp : Permitted s (.closeCmd a d) := permitted_closeCmd_iff.mpr ⟨h.1, ho⟩
  exact ⟨_, exec_of_permitted hp,
    line_of_closedLines (closedLines_of_settled (settled_completed h hp) (completed_isOpen hp))⟩

/-- Settles O60: the boot premises give a configured engine, on which each command is permitted after the one before; its
lines are those of R37 until CLOSE (`driversAt_of_idleOpen`), and the read after the write is O57's. -/
theorem bootedTransportReadsBackWhatItWrote : Obligations.BootedTransportReadsBackWhatItWrote := by
  intro p device others agents shown a v x hboot
  have hconfigure := configure_of_bootPremises hboot
  obtain ⟨⟨-, rfl⟩, hpins, -, hagents⟩ := hboot
  obtain ⟨s1, he1, hs1, ho1, rfl⟩ := exec_openCmd_of_reset p shown 0 0
  obtain ⟨he2, hs2, ho2⟩ := settled_open_transaction (i := .write a v) rfl hs1 ho1
  obtain ⟨he3, hs3, ho3⟩ := settled_open_transaction (i := .read a x) rfl hs2 ho2
  obtain ⟨s4, he4, hz4⟩ := exec_closeCmd_of_settled hs3 ho3 0 0
  have hcfg2 : (s1.completed (.write a v)).cfg = s1.cfg := completed_cfg _ _
  have hcfg3 : ((s1.completed (.write a v)).completed (.read a x)).cfg = s1.cfg := by rw [completed_cfg, completed_cfg]
  have hlines1 : IdleOpenLines s1 := idleOpenLines_of_settled hs1 ho1
  have hdrivers {t : State} (hcfg : t.cfg = s1.cfg) (ht : Settled t) (ho : t.isOpen = true) (l : Line) :
      t.driversAt (pinOf s1.cfg.pins l) = (if l = .di then [] else [l]) ∧
        ∀ drives ∈ agents, pinOf s1.cfg.pins l ∉ drives := by
    refine ⟨?_, fun drives hd hpin => hagents drives hd _ hpin ((mem_pins_iff _ _).mpr ⟨l, rfl⟩)⟩
    rw [← hcfg] at hpins ⊢
    exact driversAt_of_idleOpen hpins (idleOpenLines_of_settled ht ho) l
  obtain ⟨t, u, het, heu, haddr, hvalue⟩ := readAfterWriteReturnsTheValue s1 a v x hs1.1 ho1 hlines1
  obtain rfl := Host.Outcome.next.inj (he2.symm.trans het)
  obtain rfl := Host.Outcome.next.inj (he3.symm.trans heu)
  have hsent : ((frameBits s1.lvl ((s1.completed (.write a v)).eventTrace.drop s1.eventTrace.length)).drop 3).take
      s1.cfg.geom.aw = msbBits s1.cfg.geom.aw a := by
    rw [frameBits_completed rfl (by rw [hlines1.2]), wireFrame_write_addr]
  refine ⟨_, s1, _, _, s4, hconfigure, he1, he2, he3, he4, ?_, driversAt_of_released hz4, hsent, haddr.trans hsent,
    fun hzero hbits => (hvalue hzero hbits).1⟩
  simp only [List.forall_mem_cons, List.not_mem_nil, false_imp_iff, implies_true, and_true]
  exact ⟨hdrivers rfl hs1 ho1, hdrivers hcfg2 hs2 ho2, hdrivers hcfg3 hs3 ho3⟩

end Sys2Proof.Machine
end
